-- ==== Sys2Proof/Word.lean ====
section
/-! DEFINITION. The widths of the Dragon: words, halfwords and bytes (spec/00_scope.md R4, R8). -/

namespace Sys2Proof

/-- A 32-bit word: every register, stack element and memory word (R4). -/
abbrev Word := BitVec 32

/-- The double byte `ab` after an opcode (R8). -/
abbrev Half := BitVec 16

/-- A byte, `CARD8` (R4). -/
abbrev Byte := BitVec 8

end Sys2Proof
end

