-- ==== Sys2Proof/Syntax.lean ====
section
/-! DEFINITION. The instructions: one constructor per row of spec/opcode_table.json, and their operand forms
(spec/30_encoding.md R71 to R86). -/

namespace Sys2Proof

/-- What the `A` flag of a register format selects for operands whose option flag is 0 (R78). -/
inductive RegFile where
  | locals
  | aux
deriving DecidableEq, Repr

/-- The operand forms of Ra and Rb (R79, R80). -/
inductive Src where
  | reg (n : BitVec 4)   -- Locals[n] or AuxRegs[n], as the `A` flag says
  | const (m : Fin 12)   -- Constants[m]
  | top                  -- [S]
  | second               -- [S-1]
  | topPop               -- [S]-
  | secondPop            -- [S-1]-
deriving DecidableEq, Repr

/-- The operand forms of Rc (R81). -/
inductive Dst where
  | reg (n : BitVec 4)   -- Locals[n] or AuxRegs[n], as the `A` flag says
  | const (m : Fin 12)   -- Constants[m]
  | top                  -- [S]
  | second               -- [S-1]
  | push                 -- [S+1]+
deriving DecidableEq, Repr

/-- The source and destination pair Q of a quick-register instruction (R82), in the numbering 0..3. -/
inductive QSel where
  | topToTop       -- d: [S], s: [S]
  | topToPush      -- d: [S+1]+, s: [S]
  | const0ToPush   -- d: [S+1]+, s: Constants[0]
  | const1ToPush   -- d: [S+1]+, s: Constants[1]
deriving DecidableEq, Repr

/-- The left operand T of a register conditional jump (R83), in the numbering 0..3. -/
inductive TSel where
  | top      -- [S]
  | topPop   -- [S]-
  | const0   -- Constants[0]
  | const1   -- Constants[1]
deriving DecidableEq, Repr

/-- Operands of format RRR (R77). -/
structure RRR where
  file : RegFile
  ra : Src
  rb : Src
  rc : Dst
deriving DecidableEq, Repr

/-- Operands of format QR (R82). -/
structure QR where
  q : QSel
  file : RegFile
  rb : Src
deriving DecidableEq, Repr

/-- Operands of format RD (R83). -/
structure RD where
  t : TSel
  file : RegFile
  rb : Src
  disp : Byte
deriving DecidableEq, Repr

/-- Operands of format XRO (R85). -/
structure XRO where
  regA : BitVec 4
  regB : BitVec 4
  off : Byte
deriving DecidableEq, Repr

/-- Operands of format LIO (R86). -/
structure LIO where
  address : Byte
  pcmd : Byte
deriving DecidableEq, Repr

/-- The 175 expanded mnemonics (R89), by which an opcode map gives byte values (R88). -/
inductive Mnemonic where
  -- Addition
  | addb | adddb | addqb | add | radd | qadd | ruadd | rvadd
  -- Subtraction
  | subb | subdb | subqb | sub | rsub | qsub | rusub | rvsub
  -- Bitwise Logical
  | and | rand | qand | or | ror | qor | rxor
  -- Field Unit
  | shl | shr | shdl | shdr | fsdb | rfu
  -- NoOps
  | j1 | j2 | j3 | j5
  -- Constants
  | lib | lidb | liqb | lc0 | lc1 | lc2 | lc3 | lc4 | lc5 | lc6 | lc7 | lc8 | lc9 | lc10 | lc11
  -- Procedure Calls and Returns
  | lfc | dfc | sfc | sfci | kfc | retn | ret
  -- Frame and Stack Pointers
  | dis | as | asl | als | al
  -- Register Copies
  | dup | exdis | lr0 | lr1 | lr2 | lr3 | lr4 | lr5 | lr6 | lr7 | lr8 | lr9 | lr10 | lr11 | lr12 | lr13 | lr14 | lr15
  | sr0 | sr1 | sr2 | sr3 | sr4 | sr5 | sr6 | sr7 | sr8 | sr9 | sr10 | sr11 | sr12 | sr13 | sr14 | sr15
  -- Loads from Memory
  | rrx | qrx | rb | rsb | rx | rri | rai | lgf | lri0 | lri1 | lri2 | lri3 | lri4 | lri5 | lri6 | lri7 | lri8 | lri9
  | lri10 | lri11 | lri12 | lri13 | lri14 | lri15
  -- Stores to Memory
  | wb | wsb | psb | wri | wai | cst | sri0 | sri1 | sri2 | sri3 | sri4 | sri5 | sri6 | sri7 | sri8 | sri9 | sri10
  | sri11 | sri12 | sri13 | sri14 | sri15
  -- Unconditional Jumps
  | jb | jdb | jqb | jsd | jsr
  -- Conditional Jumps
  | jebb | jebbj | jnebb | jnebbj | rjlb | rjlbj | rjleb | rjlebj | rjeb | rjebj | rjneb | rjnebj | rjgeb | rjgebj
  | rjgb | rjgbj
  -- Bounds Checks
  | rbc | bc | qbc
  -- Lisp Instructions
  | ladd | qladd | rladd | lsub | qlsub | rlsub
  -- Input and Output
  | lip | sip | iod | ioda | ion
deriving DecidableEq, Repr

/-- The 175 instructions (R89). Literal bytes are operands even where the instruction ignores them (J2, J3, J5). -/
inductive Instr where
  -- Addition
  | addb (a : Byte) | adddb (ab : Half) | addqb (abgd : Word) | add | radd (o : RRR) | qadd (o : QR) | ruadd (o : RRR)
  | rvadd (o : RRR)
  -- Subtraction
  | subb (a : Byte) | subdb (ab : Half) | subqb (abgd : Word) | sub | rsub (o : RRR) | qsub (o : QR) | rusub (o : RRR)
  | rvsub (o : RRR)
  -- Bitwise Logical
  | and | rand (o : RRR) | qand (o : QR) | or | ror (o : RRR) | qor (o : QR) | rxor (o : RRR)
  -- Field Unit
  | shl (ab : Half) | shr (ab : Half) | shdl (ab : Half) | shdr (ab : Half) | fsdb (ab : Half) | rfu (o : RRR)
  -- NoOps
  | j1 | j2 (a : Byte) | j3 (ab : Half) | j5 (abgd : Word)
  -- Constants
  | lib (a : Byte) | lidb (ab : Half) | liqb (abgd : Word) | lc0 | lc1 | lc2 | lc3 | lc4 | lc5 | lc6 | lc7 | lc8 | lc9 | lc10
  | lc11
  -- Procedure Calls and Returns
  | lfc (ab : Half) | dfc (abgd : Word) | sfc | sfci | kfc | retn | ret (a : Byte)
  -- Frame and Stack Pointers
  | dis | as (a : Byte) | asl (a : Byte) | als (a : Byte) | al (a : Byte)
  -- Register Copies
  | dup | exdis | lr0 | lr1 | lr2 | lr3 | lr4 | lr5 | lr6 | lr7 | lr8 | lr9 | lr10 | lr11 | lr12 | lr13 | lr14 | lr15 | sr0 | sr1
  | sr2 | sr3 | sr4 | sr5 | sr6 | sr7 | sr8 | sr9 | sr10 | sr11 | sr12 | sr13 | sr14 | sr15
  -- Loads from Memory
  | rrx (o : RRR) | qrx (o : QR) | rb (a : Byte) | rsb (a : Byte) | rx | rri (o : XRO) | rai (o : XRO) | lgf (ab : Half)
  | lri0 (a : Byte) | lri1 (a : Byte) | lri2 (a : Byte) | lri3 (a : Byte) | lri4 (a : Byte) | lri5 (a : Byte) | lri6 (a : Byte)
  | lri7 (a : Byte) | lri8 (a : Byte) | lri9 (a : Byte) | lri10 (a : Byte) | lri11 (a : Byte) | lri12 (a : Byte)
  | lri13 (a : Byte) | lri14 (a : Byte) | lri15 (a : Byte)
  -- Stores to Memory
  | wb (a : Byte) | wsb (a : Byte) | psb (a : Byte) | wri (o : XRO) | wai (o : XRO) | cst (a : Byte) | sri0 (a : Byte)
  | sri1 (a : Byte) | sri2 (a : Byte) | sri3 (a : Byte) | sri4 (a : Byte) | sri5 (a : Byte) | sri6 (a : Byte) | sri7 (a : Byte)
  | sri8 (a : Byte) | sri9 (a : Byte) | sri10 (a : Byte) | sri11 (a : Byte) | sri12 (a : Byte) | sri13 (a : Byte)
  | sri14 (a : Byte) | sri15 (a : Byte)
  -- Unconditional Jumps
  | jb (a : Byte) | jdb (ab : Half) | jqb (abgd : Word) | jsd | jsr
  -- Conditional Jumps
  | jebb (a : Byte) (b : Byte) | jebbj (a : Byte) (b : Byte) | jnebb (a : Byte) (b : Byte) | jnebbj (a : Byte) (b : Byte)
  | rjlb (o : RD) | rjlbj (o : RD) | rjleb (o : RD) | rjlebj (o : RD) | rjeb (o : RD) | rjebj (o : RD) | rjneb (o : RD)
  | rjnebj (o : RD) | rjgeb (o : RD) | rjgebj (o : RD) | rjgb (o : RD) | rjgbj (o : RD)
  -- Bounds Checks
  | rbc (o : RRR) | bc | qbc (o : QR)
  -- Lisp Instructions
  | ladd | qladd (o : QR) | rladd (o : RRR) | lsub | qlsub (o : QR) | rlsub (o : RRR)
  -- Input and Output
  | lip (a : Byte) | sip (a : Byte) | iod (o : LIO) | ioda (o : LIO) | ion (o : LIO)
deriving DecidableEq, Repr

end Sys2Proof
end

