-- ==== Sys2Proof/Config.lean ====
section
/-! DEFINITION. The parameters of spec/00_scope.md R6, each under a name of its own in the namespace Config. Here stand the types of
parameter values, the parameters the state type is built from, the reset values, and the parameters the spec leaves OPEN, which are
opaque constants (free values, nothing can be proved of them). The reference values of OPC, REGCODE and LIO_SPLIT stand in
Sys2Proof/Decode.lean, the reference values the semantics use in Sys2Proof/Machine/Parameters.lean. -/

namespace Sys2Proof

/-- The three trap kinds of R260. -/
inductive TrapKind where
  | overflow
  | boundsCheck
  | lispNaN
deriving DecidableEq, Repr

/-- One dispatch that reached the device space (R245): a read of `addr` with command `pcmd`, or a write of `data`. -/
inductive IoEvent where
  | read (addr : Word) (pcmd : Byte)
  | write (addr data : Word) (pcmd : Byte)
deriving DecidableEq, Repr

/-- A field descriptor (R130). -/
structure FieldDesc where
  insert : Bool
  width : Nat
  shift : Nat
deriving DecidableEq, Repr

/-- A range of 32-bit addresses: `size` of them from `base` on, modulo 2^32. -/
structure Region where
  base : Word
  size : Nat
deriving DecidableEq, Repr

namespace Config

/-! The coding of instructions: OPC, REGCODE, LIO_SPLIT -/

/-- REGCODE: where the operand fields stand and which code each operand form has (R78 to R85, D4, D5; log 2). A position is the lowest
bit of the field in its byte. Codes are table indices: `optSrc[f]` is the form of Ra or Rb at option flag 1 and field `f`. -/
structure RegCode where
  aOpt : Nat                        -- byte 1 of RRR
  cOpt : Nat                        -- byte 1 of RRR
  bOpt : Nat                        -- byte 1 of RRR, QR, RD
  fileFlag : Nat                    -- A, byte 1 of RRR, QR, RD
  rb : Nat                          -- byte 1 of RRR, QR, RD
  rc : Nat                          -- byte 2 of RRR
  ra : Nat                          -- byte 2 of RRR
  q : Nat                           -- byte 1 of QR
  t : Nat                           -- byte 1 of RD
  regA : Nat                        -- byte 1 of XRO
  regB : Nat                        -- byte 1 of XRO
  files : Vector RegFile 2          -- by A
  optSrc : Vector Src 16            -- Ra and Rb at option flag 1
  optDst : Vector (Option Dst) 16   -- Rc at option flag 1, none where the code is reserved
  qForms : Vector QSel 4            -- by Q
  tForms : Vector TSel 4            -- by T
deriving DecidableEq, Repr

/-- LIO_SPLIT: which LIO byte is `Address` and which is `PCmd` (R86, D6; log 2). -/
inductive LioSplit where
  | addressFirst
  | commandFirst
deriving DecidableEq, Repr

/-- What the decoder takes as its argument (R88): OPC, REGCODE and LIO_SPLIT. -/
structure Coding where
  opc : Mnemonic → Byte
  regCode : RegCode
  lioSplit : LioSplit

/-! The parameters the state is built from -/

/-- log2 of STACK_SIZE: at most 8, so that STACK_SIZE divides 256 (R20, D10; log 4). -/
abbrev stackBits : Nat := 7

/-- STACK_SIZE, reference value 128 (R20, D10; log 4). -/
abbrev stackSize : Nat := 2 ^ stackBits

/-- MODES, reference value {kernel, user} (R31, D21; log 17). -/
inductive Mode where
  | kernel
  | user
deriving DecidableEq, Repr

/-- VERSION_T, the type of `version`, whose values nothing inspects (R33, D22; log 17). -/
abbrev Version := Nat

/-- The values of ADDR_UNIT (R50): consecutive data words are 1 apart or 4 apart. -/
inductive AddrUnit where
  | word
  | byte
deriving DecidableEq, Repr

/-! Reset values (R39, R291, D30) -/

/-- RESET_PC, OPEN (R291, D30). DESIGN CHOICE 0, unsafe: log 6. -/
def resetPc : Word := 0

/-- A word register after reset: Stack, Constants, AuxRegs, Field, ProcReg. DESIGN CHOICE 0, unsafe: log 5. -/
def resetWord : Word := 0

/-- S and L after reset. DESIGN CHOICE 0, unsafe: log 5. -/
def resetIndex : BitVec stackBits := 0

/-- Carry and trapsEnabled after reset. DESIGN CHOICE false, unsafe: log 5. -/
def resetFlag : Bool := false

/-- version after reset. DESIGN CHOICE 0, unsafe: log 5. -/
def resetVersion : Version := 0

/-- mode after reset (R39, R291). -/
def resetMode : Mode := .kernel

/-- MEM_ADMIT at reset, OPEN (R58, D37). DESIGN CHOICE the whole word address space, unsafe: log 8. -/
def memAdmit : List Region := [⟨0, 2 ^ 32⟩]

/-! The parameters left OPEN -/

/-- LISP_NAN(x, y, r), OPEN (R235, D24): free value, log 14. -/
opaque lispNaN (x y r : Word) : Bool

/-- TRAP_PC(kind), OPEN (R264, D19): free value, log 11. -/
opaque trapPc (kind : TrapKind) : Word

/-- INST_TRAP, the map InstTrap[opcode] to a byte address, OPEN (R157, D19): free value, log 12. The opcode is named by its mnemonic,
so that no semantics depend on OPC (R88). -/
opaque instTrap (opcode : Mnemonic) : Word

/-- How far the capacity of the IFU stack exceeds one; free value, log 13. -/
opaque ifuExtraDepth : Nat

/-- IFU_STACK_DEPTH, OPEN, at least 1 (R150, D23): log 13. -/
def ifuStackDepth : Nat := ifuExtraDepth + 1

/-- IS_READ(pcmd), OPEN (R245, D27): free value, log 15. -/
opaque isRead (pcmd : Byte) : Bool

/-- IS_WRITE(pcmd), OPEN (R245, D27): free value, log 15. -/
opaque isWrite (pcmd : Byte) : Bool

/-- DISPATCH: the word an I/O read returns, given the dispatches made before it (newest first), OPEN (R245, D27): free value, log 15.
The history grows at every read, so each read of a run is a fresh free word. -/
opaque ioRead (history : List IoEvent) (addr : Word) (pcmd : Byte) : Word

end Config

/-- An index of `Stack`: its arithmetic is modulo STACK_SIZE (R20, R165). -/
abbrev StackIx := BitVec Config.stackBits

end Sys2Proof
end

