-- ==== Sys2Proof/Machine/Parameters.lean ====
section
/-! DEFINITION. The reference values of the parameters of spec/00_scope.md R6 that the semantics use. Each is the spec's decision, no
fact about the chip; the meanings name the parameter and never its value. -/

namespace Sys2Proof.Config

/-- OVERFLOW_KIND, reference value: signed 32-bit overflow of an exact result (R101, D41; log 20). -/
def overflowKind (exact : Int) : Bool := decide (exact < -2 ^ 31) || decide (2 ^ 31 - 1 < exact)

/-- CMP_SIGNED, reference value true (R216, D17; log 21). -/
def cmpSigned : Bool := true

/-- BC_UNSIGNED, reference value true (R230, D17; log 21). -/
def bcUnsigned : Bool := true

/-- The word whose `k` low bits are ones. -/
def lowOnes (k : Nat) : Word := BitVec.ofNat 32 (2 ^ k - 1)

/-- FU_OPERATE, FieldUnit.Operate[left, right, fd], at its reference value (R131, D9; log 18). -/
def fuOperate (left right : Word) (fd : FieldDesc) : Word :=
  let sh : Word := (((left ++ right : BitVec 64) <<< fd.shift).extractLsb' 32 32)
  if fd.insert then
    let mask := lowOnes fd.width <<< fd.shift
    (sh &&& mask) ||| (right &&& ~~~mask)
  else sh &&& lowOnes fd.width

/-- CSTORE, reference value (R203, D25; log 19): from the word read at ptr, `new` and `old`, the result of CStore and the word it
stores at ptr, if any. -/
def cStore (word new old : Word) : Word × Option Word := (word, if word = old then some new else none)

/-- PROCREG's ProcRead(a), reference value: 256 independent words (R36, D26; log 16). -/
def procRead (regs : Vector Word 256) (a : Byte) : Word := regs[a.toNat]'a.isLt

/-- PROCREG's ProcWrite(a, v), reference value: 256 independent words (R36, D26; log 16). -/
def procWrite (regs : Vector Word 256) (a : Byte) (v : Word) : Vector Word 256 := regs.set a.toNat v a.isLt

/-- ADDR_UNIT, reference value word (R50, D13; log 3). -/
def addrUnit : AddrUnit := .word

end Sys2Proof.Config
end

