-- ==== Sys2Proof/Machine/State.lean ====
section
/-! DEFINITION. The state of the Dragon (spec/10_state.md, spec/20_memory.md), the reasons a step stops, and the state after
reset. -/

namespace Sys2Proof.Machine

/-- One record of the IFU stack, `[PC, L, mode, trapsEnabled, version]` (R30). -/
structure IfuRecord where
  pc : Word
  fp : StackIx
  mode : Config.Mode
  trapsEnabled : Bool
  version : Config.Version
deriving DecidableEq, Repr

/-- Memory as (byte cell, byte) pairs. Cell 4w + k is byte k of the word at word address w, byte 0 most significant (R50, R52). -/
abbrev Memory := List Host.Cell

/-- How many byte cells the 2^32 words of memory have (R50). -/
abbrev Memory.size : Nat := 2 ^ 34

/-- The canonical form: cells strictly rising and inside the address space. An unlisted cell has no value, so no listed entry
can equal it (log 7). -/
abbrev Memory.wf (m : Memory) : Prop :=
  m.Pairwise (fun x y => x.1 < y.1) ∧ ∀ c ∈ m, c.1 < Memory.size

/-- The architectural state, and the launch data of R292 that its rules refer to. -/
structure State where
  stack : Vector Word Config.stackSize   -- Stack (R20)
  sp : StackIx                           -- S (R21)
  fp : StackIx                           -- L (R22)
  consts : Vector Word 12                -- Constants (R25)
  aux : Vector Word 16                   -- AuxRegs (R26)
  pc : Word                              -- PC, a byte address (R27)
  carry : Bool                           -- Carry (R28)
  field : Word                           -- Field (R29)
  ifu : List IfuRecord                   -- the IFU stack, newest record first (R30)
  mode : Config.Mode                     -- mode (R31)
  trapsEnabled : Bool                    -- trapsEnabled (R32)
  version : Config.Version               -- version, an opaque value (R33, log 17)
  procRegs : Vector Word 256             -- ProcReg (R36, log 16)
  mem : Memory                           -- Mem (R37, R50)
  admitted : List Region                 -- MEM_ADMIT, in addresses of the unit ADDR_UNIT (R58, log 8)
  text : List Region                     -- the program image, in byte addresses (R58, R63, log 9)
  io : List IoEvent                      -- the device state Io, as the dispatches made, newest first (R245, log 15)
deriving DecidableEq, Repr

/-- Where the state of a run gives a step no meaning: the spec's `refuse` (R14, R262) in its state-dependent cases. Each leaves
no next state. Safe: nothing is provable of a run past it. -/
inductive Fault where
  /-- `refuse("memory not admitted")` (R58): a data access outside MEM_ADMIT, or a fetch outside the program image. Raised by
  fetch, by every load and store, CST and SFCI. Safe. -/
  | memoryNotAdmitted
  /-- `refuse("unwritten")` (R40) for memory: a load or fetch of a byte nothing has written. Safe. -/
  | unwritten
  /-- `refuse("store to program text")` (R63): raised by stores and by a CST that stores. Safe. -/
  | storeToText
  /-- `refuse("IFU stack overflow")` (R150, R264): raised by calls, KFC and trap entry on a full IFU stack. Safe. -/
  | ifuOverflow
  /-- `refuse("IFU stack underflow")` (R151): raised by RETN and RET on an empty IFU stack. Safe. -/
  | ifuUnderflow
deriving DecidableEq, Repr

/-- Where an encoding has no meaning: the spec's `refuse` (R14, R93) in its other cases. Safe: no next state. -/
inductive Refusal where
  /-- An instruction this model gives no meaning to yet, by mnemonic: raised by an arm of `exec` alone. Safe. -/
  | notModelled (mnemonic : String)
  /-- `refuse("unassigned opcode")` (R92): raised by fetch. Safe. -/
  | unassignedOpcode (op : Byte)
  /-- `refuse("reserved Rc code")` (R81, R93): raised by fetch. Safe. -/
  | reservedRcCode
  /-- `refuse("field descriptor out of range")` (R130, R137): raised by fetch for a literal descriptor, by RFU for Field, and
  by SHL, SHR, SHDL, SHDR given an ill-formed term. Safe. -/
  | fieldDescriptor
  /-- The bytes given to the decoder end inside an instruction. `fetchInstr` hands over as many bytes as the opcode asks for, so
  that no step answers this. Safe. -/
  | tooShort
deriving DecidableEq, Repr

/-- The outcome of an instruction or a step (R14), a trap being a next state (R264, log 11). -/
abbrev Result := Host.Outcome State Fault Refusal

/-- The machine right after reset (R39, R291): kernel mode, empty IFU stack, nothing in memory and no program loaded. The values
of the registers the spec leaves unspecified are the model's (log 5), as are RESET_PC (log 6) and the admitted memory (log 8). -/
def State.reset : State where
  stack := Vector.replicate Config.stackSize Config.resetWord
  sp := Config.resetIndex
  fp := Config.resetIndex
  consts := Vector.replicate 12 Config.resetWord
  aux := Vector.replicate 16 Config.resetWord
  pc := Config.resetPc
  carry := Config.resetFlag
  field := Config.resetWord
  ifu := []
  mode := Config.resetMode
  trapsEnabled := Config.resetFlag
  version := Config.resetVersion
  procRegs := Vector.replicate 256 Config.resetWord
  mem := []
  admitted := Config.memAdmit
  text := []
  io := []

end Sys2Proof.Machine
end

