-- ==== Sys2Proof/Machine/Ops.lean ====
section
/-! DEFINITION. The named operations over memory, registers, the stacks and the outcomes: memory cells and words, Stack and its
pointers, the IFU stack, taking a trap and returning from one, device dispatch. -/

namespace Sys2Proof

/-- Whether an address lies in a range, counted modulo 2^32. -/
def Region.has (r : Region) (a : Word) : Bool := decide ((a - r.base).toNat < r.size)

end Sys2Proof

namespace Sys2Proof.Machine

/-! Memory cells and words (R50, R52) -/

/-- The byte in a cell, or none where nothing has written it (log 7). -/
def Memory.get : Memory → Nat → Option Byte
  | [], _ => none
  | (k, b) :: m, a => if k = a then some b else Memory.get m a

/-- Write a cell, keeping the list sorted. -/
def Memory.put : Memory → Nat → Byte → Memory
  | [], a, v => [(a, v)]
  | (k, b) :: m, a, v =>
    if a < k then (a, v) :: (k, b) :: m
    else if k = a then (a, v) :: m
    else (k, b) :: Memory.put m a v

/-- The cell of byte `k` of the data word at address `wa`: the one place where ADDR_UNIT is used (R50, log 3). -/
def dataCell (wa : Word) (k : Nat) : Nat :=
  match Config.addrUnit with
  | .word => 4 * wa.toNat + k
  | .byte => wa.toNat + k

/-- The data word at an address, or none where one of its bytes is unwritten. -/
def Memory.word (m : Memory) (wa : Word) : Option Word :=
  match m.get (dataCell wa 0), m.get (dataCell wa 1), m.get (dataCell wa 2), m.get (dataCell wa 3) with
  | some b0, some b1, some b2, some b3 => some (b0 ++ b1 ++ b2 ++ b3)
  | _, _, _, _ => none

/-- Write a word, most significant byte in the lowest cell (R52). -/
def Memory.putWord (m : Memory) (wa v : Word) : Memory :=
  (((m.put (dataCell wa 0) (v.extractLsb' 24 8)).put (dataCell wa 1) (v.extractLsb' 16 8)).put
    (dataCell wa 2) (v.extractLsb' 8 8)).put (dataCell wa 3) (v.extractLsb' 0 8)

/-- Whether a data address exists: MEM_ADMIT (R58). -/
def State.admits (s : State) (wa : Word) : Bool := s.admitted.any fun r => r.has wa

/-- Whether a byte address belongs to the program image (R58). -/
def State.inText (s : State) (ba : Word) : Bool := s.text.any fun r => r.has ba

/-- Whether a data word holds any byte of the program image (R63): only cells below 2^32 are instruction bytes (R52). -/
def State.holdsText (s : State) (wa : Word) : Bool :=
  [0, 1, 2, 3].any fun k => decide (dataCell wa k < 2 ^ 32) && s.inText (BitVec.ofNat 32 (dataCell wa k))

/-- MemRead (R50, R58, R40). -/
def State.memRead (s : State) (wa : Word) : Except Fault Word :=
  if s.admits wa then
    match s.mem.word wa with
    | some w => .ok w
    | none => .error .unwritten
  else .error .memoryNotAdmitted

/-- MemWrite (R50, R58, R63). -/
def State.memWrite (s : State) (wa v : Word) : Except Fault State :=
  if s.admits wa then
    if s.holdsText wa then .error .storeToText
    else .ok { s with mem := s.mem.putWord wa v }
  else .error .memoryNotAdmitted

/-- CStore[ptr, new, old] (R203): read the word at `ptr`, store there what the parameter CSTORE says, answer its result. -/
def State.cStore (s : State) (ptr new old : Word) : Except Fault (Word × State) :=
  match s.memRead ptr with
  | .error f => .error f
  | .ok w =>
    match Config.cStore w new old with
    | (r, none) => .ok (r, s)
    | (r, some v) =>
      match s.memWrite ptr v with
      | .error f => .error f
      | .ok t => .ok (r, t)

/-! Stack and register files (R20 to R26, R36) -/

/-- `Stack[i]`; indices wrap modulo STACK_SIZE (R20). -/
def State.stackAt (s : State) (i : StackIx) : Word := s.stack[i.toNat]'i.isLt

def State.setStack (s : State) (i : StackIx) (v : Word) : State := { s with stack := s.stack.set i.toNat v i.isLt }

/-- `[S]`. -/
def State.top (s : State) : Word := s.stackAt s.sp

/-- `[S-1]`. -/
def State.second (s : State) : Word := s.stackAt (s.sp - 1)

/-- `[S-2]`. -/
def State.third (s : State) : Word := s.stackAt (s.sp - 2)

/-- The index in Stack of `Locals[n]` (R24). -/
def State.localIx (s : State) (n : BitVec 4) : StackIx := s.fp + n.setWidth _

/-- `Locals[n]` (R24). -/
def State.localAt (s : State) (n : BitVec 4) : Word := s.stackAt (s.localIx n)

def State.setLocal (s : State) (n : BitVec 4) (v : Word) : State := s.setStack (s.localIx n) v

/-- `Constants[m]` (R25). -/
def State.constAt (s : State) (m : Fin 12) : Word := s.consts[m.val]'m.isLt

def State.setConst (s : State) (m : Fin 12) (v : Word) : State := { s with consts := s.consts.set m.val v m.isLt }

/-- `AuxRegs[n]` (R26). -/
def State.auxAt (s : State) (n : BitVec 4) : Word := s.aux[n.toNat]'n.isLt

def State.setAux (s : State) (n : BitVec 4) (v : Word) : State := { s with aux := s.aux.set n.toNat v n.isLt }

/-- ProcRead(a) (R36): parameter PROCREG. -/
def State.procAt (s : State) (a : Byte) : Word := Config.procRead s.procRegs a

/-- ProcWrite(a, v) (R36): parameter PROCREG. -/
def State.setProc (s : State) (a : Byte) (v : Word) : State := { s with procRegs := Config.procWrite s.procRegs a v }

def State.setCarry (s : State) (c : Bool) : State := { s with carry := c }

/-! The end of an instruction (R13): S moves by DS, PC by the length -/

/-- PC advanced by the length `len`, and `ds` added to S. -/
def State.advance (s : State) (len : Word) (ds : StackIx) : State := { s with pc := s.pc + len, sp := s.sp + ds }

/-- `[S+1] ← v; DS ← DS + 1`. -/
def State.push (s : State) (v : Word) (len : Word) : State := (s.setStack (s.sp + 1) v).advance len 1

/-- `[S] ← v`. -/
def State.replaceTop (s : State) (v : Word) (len : Word) : State := (s.setStack s.sp v).advance len 0

/-- `[S-1] ← v; DS ← DS - 1`. -/
def State.combine (s : State) (v : Word) (len : Word) : State := (s.setStack (s.sp - 1) v).advance len (-1)

/-- A load (R180): continue with the word at `ea`. -/
def State.load (s : State) (ea : Word) (k : Word → State) : Result :=
  match s.memRead ea with
  | .error f => .fault f
  | .ok w => .next (k w)

/-- A store (R195): write `v` at `ea`, then move on by `len` and `ds`. -/
def State.store (s : State) (ea v : Word) (len : Word) (ds : StackIx) : Result :=
  match s.memWrite ea v with
  | .error f => .fault f
  | .ok t => .next (t.advance len ds)

/-! The IFU stack (R150, R151) -/

/-- Whether the IFU stack holds IFU_STACK_DEPTH records. The capacity is at least 1, so an empty stack has room (log 13). -/
def ifuFull : List IfuRecord → Bool
  | [] => false
  | _ :: older => decide (Config.ifuExtraDepth ≤ older.length)

/-- The record a call or trap saves, with `ret` as its PC (R150). -/
def State.ifuRecord (s : State) (ret : Word) : IfuRecord := ⟨ret, s.fp, s.mode, s.trapsEnabled, s.version⟩

/-- IFUPush(ret, L, mode, trapsEnabled, version), for a stack that has room (R150). -/
def State.ifuPush (s : State) (ret : Word) : State := { s with ifu := s.ifuRecord ret :: s.ifu }

/-- The five fields that IFUPop restores (R151). -/
def State.restore (s : State) (r : IfuRecord) (rest : List IfuRecord) : State :=
  { s with pc := r.pc, fp := r.fp, mode := r.mode, trapsEnabled := r.trapsEnabled, version := r.version, ifu := rest }

/-- Return from a call or a trap (R151, R268): `[PC, L, mode, trapsEnabled, version] ← IFUOps.Pop[]`. -/
def State.ifuReturn (s : State) : Result :=
  match s.ifu with
  | [] => .fault .ifuUnderflow
  | r :: rest => .next (s.restore r rest)

/-- A call (R152 to R156): push the address after the call, which is `len` bytes long; go to `target`, S moving by `ds`. -/
def State.call (s : State) (len target : Word) (ds : StackIx) : Result :=
  if ifuFull s.ifu then .fault .ifuOverflow
  else .next { s.ifuPush (s.pc + len) with pc := target, sp := s.sp + ds }

/-! Taking an exception -/

/-- Entry to kernel mode, of KFC and of traps alike (R157, R264): push the record with PC `saved`, mode ← kernel, PC ← `target`. -/
def State.kernelEntry (s : State) (saved target : Word) : State := { s.ifuPush saved with mode := .kernel, pc := target }

/-- trap_entry(kind) on a stack that has room: the saved PC is the trapping instruction's own (R264). -/
def State.trapEntry (s : State) (kind : TrapKind) : State := s.kernelEntry s.pc (Config.trapPc kind)

/-- TAKING A TRAP, the one shared operation: if `cond` holds the trap of `kind` is entered from the pre-state `s`, nothing of the
instruction written (R263, R264), or the machine stops where the IFU stack has no room; otherwise the instruction ends in `done`. -/
def State.trapIf (s : State) (kind : TrapKind) (cond : Bool) (done : State) : Result :=
  if ifuFull s.ifu && cond then .fault .ifuOverflow
  else .next (if cond then s.trapEntry kind else done)

/-! Device dispatch (R245, R252) -/

/-- The effect of an I/O row's two groups besides DS: where the command reads, the word goes to `Stack[dst]`; where it writes, `data`
(read in the pre-state) goes out; the read first (R246, R252). -/
def State.dispatch (s : State) (addr data : Word) (pcmd : Byte) (dst : StackIx) : State :=
  let afterRead :=
    if Config.isRead pcmd then { s.setStack dst (Config.ioRead s.io addr pcmd) with io := .read addr pcmd :: s.io } else s
  if Config.isWrite pcmd then { afterRead with io := .write addr data pcmd :: afterRead.io } else afterRead

end Sys2Proof.Machine
end

