-- ==== Sys2Proof/Machine/Operands.lean ====
section
/-! DEFINITION. The operand forms (spec/30_encoding.md R78 to R87): the values literals stand for, the reads of Ra, Rb, Q and T,
the writes of Rc and Q, and what each adds to DS. -/

namespace Sys2Proof.Machine

/-! Literals (R8, R87) -/

def zext8 (a : Byte) : Word := a.setWidth 32

def sext8 (a : Byte) : Word := a.signExtend 32

def zext16 (ab : Half) : Word := ab.setWidth 32

def sext16 (ab : Half) : Word := ab.signExtend 32

/-- A literal byte as a displacement of S or L, modulo STACK_SIZE (R165). -/
def stackOffset (a : Byte) : StackIx := a.setWidth _

/-! Register operands -/

/-- `Locals[n]` or `AuxRegs[n]`, as the `A` flag says (R78). -/
def State.regAt (s : State) (file : RegFile) (n : BitVec 4) : Word :=
  match file with
  | .locals => s.localAt n
  | .aux => s.auxAt n

def State.setReg (s : State) (file : RegFile) (n : BitVec 4) (v : Word) : State :=
  match file with
  | .locals => s.setLocal n v
  | .aux => s.setAux n v

/-- The value of an Ra or Rb operand (R79). -/
def State.read (s : State) (file : RegFile) : Src → Word
  | .reg n => s.regAt file n
  | .const m => s.constAt m
  | .top | .topPop => s.top
  | .second | .secondPop => s.second

/-- What an Ra or Rb operand adds to DS (R79). -/
def srcDs : Src → StackIx
  | .reg _ | .const _ | .top | .second => 0
  | .topPop | .secondPop => -1

/-- The write of an Rc operand, S being that of the pre-state (R81). -/
def State.write (s : State) (file : RegFile) (d : Dst) (v : Word) : State :=
  match d with
  | .reg n => s.setReg file n v
  | .const m => s.setConst m v
  | .top => s.setStack s.sp v
  | .second => s.setStack (s.sp - 1) v
  | .push => s.setStack (s.sp + 1) v

/-- What an Rc operand adds to DS (R81). -/
def dstDs : Dst → StackIx
  | .reg _ | .const _ | .top | .second => 0
  | .push => 1

/-- Qs (R82). -/
def State.readQ (s : State) : QSel → Word
  | .topToTop | .topToPush => s.top
  | .const0ToPush => s.constAt 0
  | .const1ToPush => s.constAt 1

/-- The index in Stack of Qd (R82). -/
def State.qDest (s : State) : QSel → StackIx
  | .topToTop => s.sp
  | .topToPush | .const0ToPush | .const1ToPush => s.sp + 1

/-- What Q adds to DS (R82). -/
def qDs : QSel → StackIx
  | .topToTop => 0
  | .topToPush | .const0ToPush | .const1ToPush => 1

/-- T (R83). -/
def State.readT (s : State) : TSel → Word
  | .top | .topPop => s.top
  | .const0 => s.constAt 0
  | .const1 => s.constAt 1

/-- What T adds to DS (R83). -/
def tDs : TSel → StackIx
  | .top | .const0 | .const1 => 0
  | .topPop => -1

/-! The formats RRR, QR, RD -/

/-- Ra of an RRR instruction. -/
def State.ra (s : State) (o : RRR) : Word := s.read o.file o.ra

/-- Rb of an RRR instruction. -/
def State.rb (s : State) (o : RRR) : Word := s.read o.file o.rb

/-- The end of an RRR instruction, 3 bytes: `Rc ← v`, DS summed over the three operands (R77, R80, R81). -/
def State.finishRRR (s : State) (o : RRR) (v : Word) : State :=
  (s.write o.file o.rc v).advance 3 (srcDs o.ra + srcDs o.rb + dstDs o.rc)

/-- Qs of a QR instruction. -/
def State.qs (s : State) (o : QR) : Word := s.readQ o.q

/-- Rb of a QR instruction. -/
def State.qrb (s : State) (o : QR) : Word := s.read o.file o.rb

/-- The end of a QR instruction, 2 bytes: `Qd ← v` (R82). -/
def State.finishQR (s : State) (o : QR) (v : Word) : State :=
  (s.setStack (s.qDest o.q) v).advance 2 (qDs o.q + srcDs o.rb)

/-- A conditional jump, 3 bytes: PC moves by `disp` if `cond` holds and past the instruction if not; S moves either way (R226). -/
def State.jumpIf (s : State) (cond : Bool) (disp : Byte) (ds : StackIx) : State :=
  { s with pc := if cond then s.pc + sext8 disp else s.pc + 3, sp := s.sp + ds }

/-- A register conditional jump (R83): `cond` is given T and Rb. -/
def State.jumpRD (s : State) (o : RD) (cond : Word → Word → Bool) : State :=
  s.jumpIf (cond (s.readT o.t) (s.read o.file o.rb)) o.disp (tDs o.t + srcDs o.rb)

/-! The field descriptor -/

/-- The descriptor record in a double byte, or none where it is out of the declared range (R130). -/
def fieldDesc (ab : Half) : Option FieldDesc :=
  let width := (ab.extractLsb' 6 6).toNat
  let shift := (ab.extractLsb' 0 6).toNat
  if ab.extractLsb' 13 3 = 0 ∧ width ≤ 32 ∧ shift ≤ 32 then some ⟨ab.getLsbD 12, width, shift⟩ else none

/-- Run `k` on the descriptor of a literal, or refuse it (R130, R132). -/
def withDescriptor (ab : Half) (k : FieldDesc → State) : Result :=
  match fieldDesc ab with
  | none => .refused .fieldDescriptor
  | some fd => .next (k fd)

end Sys2Proof.Machine
end

