-- ==== Sys2Proof/Machine/Flags.lean ====
section
/-! DEFINITION. Sums, differences, Carry, overflow and the comparisons (spec/40_add_subtract.md R100 to R102, R119;
spec/47_jumps.md R216; spec/48_bounds_lisp.md R230). -/

namespace Sys2Proof.Machine

/-- Carry as an addend (R101). -/
def carryInt (c : Bool) : Int := if c then 1 else 0

/-- `s(x) + s(y) + c` (R101). -/
def signedSum (x y : Word) (c : Bool) : Int := x.toInt + y.toInt + carryInt c

/-- `s(x) - s(y) - c` (R101). -/
def signedDiff (x y : Word) (c : Bool) : Int := x.toInt - y.toInt - carryInt c

/-- An exact result modulo 2^32. -/
def wrap (t : Int) : Word := BitVec.ofInt 32 t

/-- A checked add or subtract with exact result `t` (R100a, R101): trap on overflow (OVERFLOW_KIND), else write the wrapped result, Carry ← 0. -/
def State.checked (s : State) (t : Int) (write : Word → State) : Result :=
  s.trapIf .overflow (Config.overflowKind t) ((write (wrap t)).setCarry false)

/-- `u(x) + u(y) + c` (R102). -/
def unsignedSum (x y : Word) (c : Bool) : Int := x.toNat + y.toNat + carryInt c

/-- CarryOut of RUADD: bit 32 of the unsigned sum (R102, R109). -/
def carryOut (x y : Word) (c : Bool) : Bool := decide (2 ^ 32 ≤ unsignedSum x y c)

/-- `u(x) - u(y) - c` (R117). -/
def unsignedDiff (x y : Word) (c : Bool) : Int := x.toNat - y.toNat - carryInt c

/-- NOT[CarryOut] of RUSUB: the borrow (R102, R117). -/
def borrowOut (x y : Word) (c : Bool) : Bool := decide (unsignedDiff x y c < 0)

/-- A Lisp add or subtract (R235): trap on Lisp NaN, else write `r`, Carry ← 0. -/
def State.lisp (s : State) (x y r : Word) (write : Word → State) : Result :=
  s.trapIf .lispNaN (Config.lispNaN x y r) ((write r).setCarry false)

/-- `<` of the register jumps (R216): signed where CMP_SIGNED. -/
def jumpLess (x y : Word) : Bool := if Config.cmpSigned then x.slt y else x.ult y

/-- `<=` of the register jumps (R216). -/
def jumpLessEq (x y : Word) : Bool := if Config.cmpSigned then x.sle y else x.ule y

/-- `<` of the bounds checks (R230): unsigned where BC_UNSIGNED. -/
def belowBound (x y : Word) : Bool := if Config.bcUnsigned then x.ult y else x.slt y

/-- A bounds check (R230): trap unless `x` is below the bound `y`. -/
def State.checkBound (s : State) (x y : Word) (done : State) : Result :=
  s.trapIf .boundsCheck (!belowBound x y) done

end Sys2Proof.Machine
end

