-- ==== Sys2Proof/Machine/AddSubtract.lean ====
section
/-! DEFINITION. Addition and subtraction (spec/40_add_subtract.md). -/

namespace Sys2Proof.Machine

/-- ADDB (R103). -/
def execAddb (a : Byte) (s : State) : Result := s.checked (signedSum s.top (zext8 a) s.carry) fun r => s.replaceTop r 2

/-- ADDDB (R104). -/
def execAdddb (ab : Half) (s : State) : Result := s.checked (signedSum s.top (zext16 ab) s.carry) fun r => s.replaceTop r 3

/-- ADDQB (R105). -/
def execAddqb (abgd : Word) (s : State) : Result := s.checked (signedSum s.top abgd s.carry) fun r => s.replaceTop r 5

/-- ADD (R106). -/
def execAdd (s : State) : Result := s.checked (signedSum s.second s.top s.carry) fun r => s.combine r 1

/-- RADD (R107). -/
def execRadd (o : RRR) (s : State) : Result := s.checked (signedSum (s.ra o) (s.rb o) s.carry) fun r => s.finishRRR o r

/-- QADD (R108). -/
def execQadd (o : QR) (s : State) : Result := s.checked (signedSum (s.qs o) (s.qrb o) s.carry) fun r => s.finishQR o r

/-- RUADD (R109). -/
def execRuadd (o : RRR) (s : State) : Result :=
  .next ((s.finishRRR o (wrap (unsignedSum (s.ra o) (s.rb o) s.carry))).setCarry (carryOut (s.ra o) (s.rb o) s.carry))

/-- RVADD (R110). -/
def execRvadd (o : RRR) (s : State) : Result := .next (s.finishRRR o (s.ra o + s.rb o))

/-- SUBB (R111). -/
def execSubb (a : Byte) (s : State) : Result := s.checked (signedDiff s.top (zext8 a) s.carry) fun r => s.replaceTop r 2

/-- SUBDB (R112). -/
def execSubdb (ab : Half) (s : State) : Result := s.checked (signedDiff s.top (zext16 ab) s.carry) fun r => s.replaceTop r 3

/-- SUBQB (R113). -/
def execSubqb (abgd : Word) (s : State) : Result := s.checked (signedDiff s.top abgd s.carry) fun r => s.replaceTop r 5

/-- SUB (R114): next-to-top minus top. -/
def execSub (s : State) : Result := s.checked (signedDiff s.second s.top s.carry) fun r => s.combine r 1

/-- RSUB (R115). -/
def execRsub (o : RRR) (s : State) : Result := s.checked (signedDiff (s.ra o) (s.rb o) s.carry) fun r => s.finishRRR o r

/-- QSUB (R116). -/
def execQsub (o : QR) (s : State) : Result := s.checked (signedDiff (s.qs o) (s.qrb o) s.carry) fun r => s.finishQR o r

/-- RUSUB (R117): Carry ← the borrow. -/
def execRusub (o : RRR) (s : State) : Result :=
  .next ((s.finishRRR o (wrap (unsignedDiff (s.ra o) (s.rb o) s.carry))).setCarry (borrowOut (s.ra o) (s.rb o) s.carry))

/-- RVSUB (R118). -/
def execRvsub (o : RRR) (s : State) : Result := .next (s.finishRRR o (s.ra o - s.rb o))

end Sys2Proof.Machine
end

