-- ==== Sys2Proof/Machine/BoundsLisp.lean ====
section
/-! DEFINITION. Bounds checks and Lisp instructions (spec/48_bounds_lisp.md). -/

namespace Sys2Proof.Machine

/-- RBC (R231): the checked value is copied to Rc. -/
def execRbc (o : RRR) (s : State) : Result := s.checkBound (s.ra o) (s.rb o) (s.finishRRR o (s.ra o))

/-- BC (R232): the bound is popped, the index stays. -/
def execBc (s : State) : Result := s.checkBound s.second s.top (s.advance 1 (-1))

/-- QBC (R233). -/
def execQbc (o : QR) (s : State) : Result := s.checkBound (s.qs o) (s.qrb o) (s.finishQR o (s.qs o))

/-- LADD (R236). -/
def execLadd (s : State) : Result := s.lisp s.top s.second (s.top + s.second) fun r => s.combine r 1

/-- QLADD (R237). -/
def execQladd (o : QR) (s : State) : Result := s.lisp (s.qs o) (s.qrb o) (s.qs o + s.qrb o) fun r => s.finishQR o r

/-- RLADD (R238). -/
def execRladd (o : RRR) (s : State) : Result := s.lisp (s.ra o) (s.rb o) (s.ra o + s.rb o) fun r => s.finishRRR o r

/-- LSUB (R239): next-to-top minus top. -/
def execLsub (s : State) : Result := s.lisp s.second s.top (s.second - s.top) fun r => s.combine r 1

/-- QLSUB (R240). -/
def execQlsub (o : QR) (s : State) : Result := s.lisp (s.qs o) (s.qrb o) (s.qs o - s.qrb o) fun r => s.finishQR o r

/-- RLSUB (R241). -/
def execRlsub (o : RRR) (s : State) : Result := s.lisp (s.ra o) (s.rb o) (s.ra o - s.rb o) fun r => s.finishRRR o r

end Sys2Proof.Machine
end

