-- ==== Sys2Proof/Machine/Calls.lean ====
section
/-! DEFINITION. Procedure calls and returns (spec/43_calls_returns.md). -/

namespace Sys2Proof.Machine

/-- LFC (R153): the target is relative to the call's own opcode address. -/
def execLfc (ab : Half) (s : State) : Result := s.call 3 (s.pc + sext16 ab) 0

/-- DFC (R154). -/
def execDfc (abgd : Word) (s : State) : Result := s.call 5 abgd 0

/-- SFC (R155): the target is popped. -/
def execSfc (s : State) : Result := s.call 1 s.top (-1)

/-- SFCI (R156): the target is the memory word that the top of stack points to; nothing is popped (log 24). -/
def execSfci (s : State) : Result :=
  match s.memRead s.top with
  | .error f => .fault f
  | .ok t => s.call 1 t 0

/-- KFC (R157): parameter INST_TRAP. -/
def execKfc (s : State) : Result :=
  if ifuFull s.ifu then .fault .ifuOverflow
  else .next (s.kernelEntry (s.pc + 1) (Config.instTrap .kfc))

/-- RETN (R158). -/
def execRetn (s : State) : Result := s.ifuReturn

/-- RET (R159): S is set from the callee's L, before the pop. -/
def execRet (a : Byte) (s : State) : Result := { s with sp := s.fp + stackOffset a }.ifuReturn

end Sys2Proof.Machine
end

