-- ==== Sys2Proof/Machine/Constants.lean ====
section
/-! DEFINITION. NoOps and constants (spec/42_noops_constants.md). -/

namespace Sys2Proof.Machine

/-- J1 (R140). -/
def execJ1 (s : State) : Result := .next (s.advance 1 0)

/-- J2 (R141): the literal is ignored. -/
def execJ2 (_a : Byte) (s : State) : Result := .next (s.advance 2 0)

/-- J3 (R142): the literal is ignored. -/
def execJ3 (_ab : Half) (s : State) : Result := .next (s.advance 3 0)

/-- J5 (R143): the literal is ignored. -/
def execJ5 (_abgd : Word) (s : State) : Result := .next (s.advance 5 0)

/-- LIB (R144). -/
def execLib (a : Byte) (s : State) : Result := .next (s.push (zext8 a) 2)

/-- LIDB (R145): zero-extended. -/
def execLidb (ab : Half) (s : State) : Result := .next (s.push (zext16 ab) 3)

/-- LIQB (R146). -/
def execLiqb (abgd : Word) (s : State) : Result := .next (s.push abgd 5)

/-- `[S+1] ← Constants[m]; DS ← DS + 1`, 1 byte (R147). -/
def State.loadConst (s : State) (m : Fin 12) : Result := .next (s.push (s.constAt m) 1)

/-- LC0 (R147). -/
def execLc0 (s : State) : Result := s.loadConst 0

/-- LC1 (R147). -/
def execLc1 (s : State) : Result := s.loadConst 1

/-- LC2 (R147). -/
def execLc2 (s : State) : Result := s.loadConst 2

/-- LC3 (R147). -/
def execLc3 (s : State) : Result := s.loadConst 3

/-- LC4 (R147). -/
def execLc4 (s : State) : Result := s.loadConst 4

/-- LC5 (R147). -/
def execLc5 (s : State) : Result := s.loadConst 5

/-- LC6 (R147). -/
def execLc6 (s : State) : Result := s.loadConst 6

/-- LC7 (R147). -/
def execLc7 (s : State) : Result := s.loadConst 7

/-- LC8 (R147). -/
def execLc8 (s : State) : Result := s.loadConst 8

/-- LC9 (R147). -/
def execLc9 (s : State) : Result := s.loadConst 9

/-- LC10 (R147). -/
def execLc10 (s : State) : Result := s.loadConst 10

/-- LC11 (R147). -/
def execLc11 (s : State) : Result := s.loadConst 11

end Sys2Proof.Machine
end

