-- ==== Sys2Proof/Machine/FieldUnit.lean ====
section
/-! DEFINITION. The field unit instructions (spec/41_logical_fieldunit.md R130 to R138). -/

namespace Sys2Proof.Machine

/-- SHL (R132). -/
def execShl (ab : Half) (s : State) : Result := withDescriptor ab fun fd => s.replaceTop (Config.fuOperate s.top 0 fd) 3

/-- SHR (R133). -/
def execShr (ab : Half) (s : State) : Result := withDescriptor ab fun fd => s.replaceTop (Config.fuOperate s.top s.top fd) 3

/-- SHDL (R134): left is the next-to-top, right the top. -/
def execShdl (ab : Half) (s : State) : Result := withDescriptor ab fun fd => s.combine (Config.fuOperate s.second s.top fd) 3

/-- SHDR (R135): left is the top, right the next-to-top. -/
def execShdr (ab : Half) (s : State) : Result := withDescriptor ab fun fd => s.combine (Config.fuOperate s.top s.second fd) 3

/-- FSDB (R136): the sum is kept whole and not checked (log 18). -/
def execFsdb (ab : Half) (s : State) : Result := .next ({ s with field := s.top + zext16 ab }.advance 3 (-1))

/-- RFU (R137): Field's bits 31:13 must be zero and its low half in range. -/
def execRfu (o : RRR) (s : State) : Result :=
  if s.field.extractLsb' 13 19 = 0 then
    withDescriptor (s.field.extractLsb' 0 16) fun fd => s.finishRRR o (Config.fuOperate (s.ra o) (s.rb o) fd)
  else .refused .fieldDescriptor

end Sys2Proof.Machine
end

