-- ==== Sys2Proof/Machine/Frame.lean ====
section
/-! DEFINITION. Frame and stack pointers, register copies (spec/44_frame_stack_copies.md). -/

namespace Sys2Proof.Machine

/-- DIS (R166). -/
def execDis (s : State) : Result := .next ({ s with sp := s.sp - 1 }.advance 1 0)

/-- AS (R167). -/
def execAs (a : Byte) (s : State) : Result := .next ({ s with sp := s.sp + stackOffset a }.advance 2 0)

/-- ASL (R168). -/
def execAsl (a : Byte) (s : State) : Result := .next ({ s with sp := s.fp + stackOffset a }.advance 2 0)

/-- ALS (R169). -/
def execAls (a : Byte) (s : State) : Result := .next ({ s with fp := s.sp + stackOffset a }.advance 2 0)

/-- AL (R170). -/
def execAl (a : Byte) (s : State) : Result := .next ({ s with fp := s.fp + stackOffset a }.advance 2 0)

/-- DUP (R171). -/
def execDup (s : State) : Result := .next (s.push s.top 1)

/-- EXDIS (R172). -/
def execExdis (s : State) : Result := .next (s.combine s.top 1)

/-- `[S+1] ← Locals[n]; DS ← DS + 1`, 1 byte (R173). -/
def State.loadLocal (s : State) (n : BitVec 4) : Result := .next (s.push (s.localAt n) 1)

/-- `Locals[n] ← [S]; DS ← DS - 1`, 1 byte (R174). -/
def State.storeLocal (s : State) (n : BitVec 4) : Result := .next ((s.setLocal n s.top).advance 1 (-1))

/-- LR0 (R173). -/
def execLr0 (s : State) : Result := s.loadLocal 0

/-- LR1 (R173). -/
def execLr1 (s : State) : Result := s.loadLocal 1

/-- LR2 (R173). -/
def execLr2 (s : State) : Result := s.loadLocal 2

/-- LR3 (R173). -/
def execLr3 (s : State) : Result := s.loadLocal 3

/-- LR4 (R173). -/
def execLr4 (s : State) : Result := s.loadLocal 4

/-- LR5 (R173). -/
def execLr5 (s : State) : Result := s.loadLocal 5

/-- LR6 (R173). -/
def execLr6 (s : State) : Result := s.loadLocal 6

/-- LR7 (R173). -/
def execLr7 (s : State) : Result := s.loadLocal 7

/-- LR8 (R173). -/
def execLr8 (s : State) : Result := s.loadLocal 8

/-- LR9 (R173). -/
def execLr9 (s : State) : Result := s.loadLocal 9

/-- LR10 (R173). -/
def execLr10 (s : State) : Result := s.loadLocal 10

/-- LR11 (R173). -/
def execLr11 (s : State) : Result := s.loadLocal 11

/-- LR12 (R173). -/
def execLr12 (s : State) : Result := s.loadLocal 12

/-- LR13 (R173). -/
def execLr13 (s : State) : Result := s.loadLocal 13

/-- LR14 (R173). -/
def execLr14 (s : State) : Result := s.loadLocal 14

/-- LR15 (R173). -/
def execLr15 (s : State) : Result := s.loadLocal 15

/-- SR0 (R174). -/
def execSr0 (s : State) : Result := s.storeLocal 0

/-- SR1 (R174). -/
def execSr1 (s : State) : Result := s.storeLocal 1

/-- SR2 (R174). -/
def execSr2 (s : State) : Result := s.storeLocal 2

/-- SR3 (R174). -/
def execSr3 (s : State) : Result := s.storeLocal 3

/-- SR4 (R174). -/
def execSr4 (s : State) : Result := s.storeLocal 4

/-- SR5 (R174). -/
def execSr5 (s : State) : Result := s.storeLocal 5

/-- SR6 (R174). -/
def execSr6 (s : State) : Result := s.storeLocal 6

/-- SR7 (R174). -/
def execSr7 (s : State) : Result := s.storeLocal 7

/-- SR8 (R174). -/
def execSr8 (s : State) : Result := s.storeLocal 8

/-- SR9 (R174). -/
def execSr9 (s : State) : Result := s.storeLocal 9

/-- SR10 (R174). -/
def execSr10 (s : State) : Result := s.storeLocal 10

/-- SR11 (R174). -/
def execSr11 (s : State) : Result := s.storeLocal 11

/-- SR12 (R174). -/
def execSr12 (s : State) : Result := s.storeLocal 12

/-- SR13 (R174). -/
def execSr13 (s : State) : Result := s.storeLocal 13

/-- SR14 (R174). -/
def execSr14 (s : State) : Result := s.storeLocal 14

/-- SR15 (R174). -/
def execSr15 (s : State) : Result := s.storeLocal 15

end Sys2Proof.Machine
end

