-- ==== Sys2Proof/Machine/InputOutput.lean ====
section
/-! DEFINITION. Input and output (spec/49_io.md). -/

namespace Sys2Proof.Machine

/-- LIP (R247). -/
def execLip (a : Byte) (s : State) : Result := .next (s.push (s.procAt a) 2)

/-- SIP (R248). -/
def execSip (a : Byte) (s : State) : Result := .next ((s.setProc a s.top).advance 2 (-1))

/-- IOD (R249): a read pushes its word, a write pops the word sent. -/
def execIod (o : LIO) (s : State) : Result :=
  .next ((s.dispatch (zext8 o.address) s.top o.pcmd (s.sp + 1)).advance 3
    ((if Config.isRead o.pcmd then 1 else 0) + (if Config.isWrite o.pcmd then -1 else 0)))

/-- IODA (R250): the address is the literal plus the top of stack; a read replaces the top, a write pops two. -/
def execIoda (o : LIO) (s : State) : Result :=
  .next ((s.dispatch (zext8 o.address + s.top) s.second o.pcmd s.sp).advance 3 (if Config.isWrite o.pcmd then -2 else 0))

/-- ION (R251): IOD without the changes of S. -/
def execIon (o : LIO) (s : State) : Result :=
  .next ((s.dispatch (zext8 o.address) s.top o.pcmd (s.sp + 1)).advance 3 0)

end Sys2Proof.Machine
end

