-- ==== Sys2Proof/Machine/Jumps.lean ====
section
/-! DEFINITION. Unconditional and conditional jumps (spec/47_jumps.md). The plain and the `J` opcode of a pair have the same effect
(R217), each in a definition of its own. -/

namespace Sys2Proof.Machine

/-- JB (R211). -/
def execJb (a : Byte) (s : State) : Result := .next (s.advance (sext8 a) 0)

/-- JDB (R212). -/
def execJdb (ab : Half) (s : State) : Result := .next (s.advance (sext16 ab) 0)

/-- JQB (R213). -/
def execJqb (abgd : Word) (s : State) : Result := .next { s with pc := abgd }

/-- JSD (R214). -/
def execJsd (s : State) : Result := .next { s with pc := s.top, sp := s.sp - 1 }

/-- JSR (R215). -/
def execJsr (s : State) : Result := .next (s.advance s.top (-1))

/-- JEBB (R218). -/
def execJebb (a b : Byte) (s : State) : Result := .next (s.jumpIf (zext8 a == s.top) b (-1))

/-- JEBBJ (R218). -/
def execJebbj (a b : Byte) (s : State) : Result := .next (s.jumpIf (zext8 a == s.top) b (-1))

/-- JNEBB (R219). -/
def execJnebb (a b : Byte) (s : State) : Result := .next (s.jumpIf (zext8 a != s.top) b (-1))

/-- JNEBBJ (R219). -/
def execJnebbj (a b : Byte) (s : State) : Result := .next (s.jumpIf (zext8 a != s.top) b (-1))

/-- RJLB (R220). -/
def execRjlb (o : RD) (s : State) : Result := .next (s.jumpRD o jumpLess)

/-- RJLBJ (R220). -/
def execRjlbj (o : RD) (s : State) : Result := .next (s.jumpRD o jumpLess)

/-- RJLEB (R221). -/
def execRjleb (o : RD) (s : State) : Result := .next (s.jumpRD o jumpLessEq)

/-- RJLEBJ (R221). -/
def execRjlebj (o : RD) (s : State) : Result := .next (s.jumpRD o jumpLessEq)

/-- RJEB (R222). -/
def execRjeb (o : RD) (s : State) : Result := .next (s.jumpRD o fun t r => t == r)

/-- RJEBJ (R222). -/
def execRjebj (o : RD) (s : State) : Result := .next (s.jumpRD o fun t r => t == r)

/-- RJNEB (R223). -/
def execRjneb (o : RD) (s : State) : Result := .next (s.jumpRD o fun t r => t != r)

/-- RJNEBJ (R223). -/
def execRjnebj (o : RD) (s : State) : Result := .next (s.jumpRD o fun t r => t != r)

/-- RJGEB (R224). -/
def execRjgeb (o : RD) (s : State) : Result := .next (s.jumpRD o fun t r => jumpLessEq r t)

/-- RJGEBJ (R224). -/
def execRjgebj (o : RD) (s : State) : Result := .next (s.jumpRD o fun t r => jumpLessEq r t)

/-- RJGB (R225). -/
def execRjgb (o : RD) (s : State) : Result := .next (s.jumpRD o fun t r => jumpLess r t)

/-- RJGBJ (R225). -/
def execRjgbj (o : RD) (s : State) : Result := .next (s.jumpRD o fun t r => jumpLess r t)

end Sys2Proof.Machine
end

