-- ==== Sys2Proof/Machine/Loads.lean ====
section
/-! DEFINITION. Loads from memory (spec/45_loads.md). -/

namespace Sys2Proof.Machine

/-- RRX (R181). -/
def execRrx (o : RRR) (s : State) : Result := s.load (s.ra o + s.rb o) fun w => s.finishRRR o w

/-- QRX (R182). -/
def execQrx (o : QR) (s : State) : Result := s.load (s.qs o + s.qrb o) fun w => s.finishQR o w

/-- RB (R183): the pointer is replaced by the word. -/
def execRb (a : Byte) (s : State) : Result := s.load (s.top + zext8 a) fun w => s.replaceTop w 2

/-- RSB (R184): the pointer stays, the word is pushed. -/
def execRsb (a : Byte) (s : State) : Result := s.load (s.top + zext8 a) fun w => s.push w 2

/-- RX (R185). -/
def execRx (s : State) : Result := s.load (s.second + s.top) fun w => s.combine w 1

/-- RRI (R187): both registers are locals. -/
def execRri (o : XRO) (s : State) : Result :=
  s.load (s.localAt o.regB + zext8 o.off) fun w => (s.setLocal o.regA w).advance 3 0

/-- RAI (R188): the base is an auxiliary register, the destination a local. -/
def execRai (o : XRO) (s : State) : Result :=
  s.load (s.auxAt o.regB + zext8 o.off) fun w => (s.setLocal o.regA w).advance 3 0

/-- LGF (R189): the base is AuxRegs[0]. -/
def execLgf (ab : Half) (s : State) : Result := s.load (s.auxAt 0 + zext16 ab) fun w => s.push w 3

/-- `[S+1] ← (Locals[n] + a)^; DS ← DS + 1`, 2 bytes (R186). -/
def State.loadIndexed (s : State) (n : BitVec 4) (a : Byte) : Result := s.load (s.localAt n + zext8 a) fun w => s.push w 2

/-- LRI0 (R186). -/
def execLri0 (a : Byte) (s : State) : Result := s.loadIndexed 0 a

/-- LRI1 (R186). -/
def execLri1 (a : Byte) (s : State) : Result := s.loadIndexed 1 a

/-- LRI2 (R186). -/
def execLri2 (a : Byte) (s : State) : Result := s.loadIndexed 2 a

/-- LRI3 (R186). -/
def execLri3 (a : Byte) (s : State) : Result := s.loadIndexed 3 a

/-- LRI4 (R186). -/
def execLri4 (a : Byte) (s : State) : Result := s.loadIndexed 4 a

/-- LRI5 (R186). -/
def execLri5 (a : Byte) (s : State) : Result := s.loadIndexed 5 a

/-- LRI6 (R186). -/
def execLri6 (a : Byte) (s : State) : Result := s.loadIndexed 6 a

/-- LRI7 (R186). -/
def execLri7 (a : Byte) (s : State) : Result := s.loadIndexed 7 a

/-- LRI8 (R186). -/
def execLri8 (a : Byte) (s : State) : Result := s.loadIndexed 8 a

/-- LRI9 (R186). -/
def execLri9 (a : Byte) (s : State) : Result := s.loadIndexed 9 a

/-- LRI10 (R186). -/
def execLri10 (a : Byte) (s : State) : Result := s.loadIndexed 10 a

/-- LRI11 (R186). -/
def execLri11 (a : Byte) (s : State) : Result := s.loadIndexed 11 a

/-- LRI12 (R186). -/
def execLri12 (a : Byte) (s : State) : Result := s.loadIndexed 12 a

/-- LRI13 (R186). -/
def execLri13 (a : Byte) (s : State) : Result := s.loadIndexed 13 a

/-- LRI14 (R186). -/
def execLri14 (a : Byte) (s : State) : Result := s.loadIndexed 14 a

/-- LRI15 (R186). -/
def execLri15 (a : Byte) (s : State) : Result := s.loadIndexed 15 a

end Sys2Proof.Machine
end

