-- ==== Sys2Proof/Machine/Logical.lean ====
section
/-! DEFINITION. Bitwise logical (spec/41_logical_fieldunit.md R120 to R126). -/

namespace Sys2Proof.Machine

/-- AND (R120). -/
def execAnd (s : State) : Result := .next (s.combine (s.second &&& s.top) 1)

/-- RAND (R121). -/
def execRand (o : RRR) (s : State) : Result := .next (s.finishRRR o (s.ra o &&& s.rb o))

/-- QAND (R122). -/
def execQand (o : QR) (s : State) : Result := .next (s.finishQR o (s.qs o &&& s.qrb o))

/-- OR (R123). -/
def execOr (s : State) : Result := .next (s.combine (s.second ||| s.top) 1)

/-- ROR (R124): the register OR, not a rotate. -/
def execRor (o : RRR) (s : State) : Result := .next (s.finishRRR o (s.ra o ||| s.rb o))

/-- QOR (R125). -/
def execQor (o : QR) (s : State) : Result := .next (s.finishQR o (s.qs o ||| s.qrb o))

/-- RXOR (R126). -/
def execRxor (o : RRR) (s : State) : Result := .next (s.finishRRR o (s.ra o ^^^ s.rb o))

end Sys2Proof.Machine
end

