-- ==== Sys2Proof/Machine/Stores.lean ====
section
/-! DEFINITION. Stores to memory (spec/46_stores.md). -/

namespace Sys2Proof.Machine

/-- WB (R196): pointer on top, value beneath. -/
def execWb (a : Byte) (s : State) : Result := s.store (s.top + zext8 a) s.second 2 (-2)

/-- WSB (R197): value on top, pointer beneath. -/
def execWsb (a : Byte) (s : State) : Result := s.store (s.second + zext8 a) s.top 2 (-2)

/-- PSB (R198): WSB that pops the value only. -/
def execPsb (a : Byte) (s : State) : Result := s.store (s.second + zext8 a) s.top 2 (-1)

/-- WRI (R200): regB is the base, regA the value. -/
def execWri (o : XRO) (s : State) : Result := s.store (s.localAt o.regB + zext8 o.off) (s.localAt o.regA) 3 0

/-- WAI (R201): the base is an auxiliary register. -/
def execWai (o : XRO) (s : State) : Result := s.store (s.auxAt o.regB + zext8 o.off) (s.localAt o.regA) 3 0

/-- CST (R202): pointer, new and old stay on the stack and the word read is pushed. -/
def execCst (a : Byte) (s : State) : Result :=
  match s.cStore (s.third + zext8 a) s.second s.top with
  | .error f => .fault f
  | .ok (r, t) => .next (t.push r 2)

/-- `(Locals[n] + a)^ ← [S]; DS ← DS - 1`, 2 bytes (R199). -/
def State.storeIndexed (s : State) (n : BitVec 4) (a : Byte) : Result := s.store (s.localAt n + zext8 a) s.top 2 (-1)

/-- SRI0 (R199). -/
def execSri0 (a : Byte) (s : State) : Result := s.storeIndexed 0 a

/-- SRI1 (R199). -/
def execSri1 (a : Byte) (s : State) : Result := s.storeIndexed 1 a

/-- SRI2 (R199). -/
def execSri2 (a : Byte) (s : State) : Result := s.storeIndexed 2 a

/-- SRI3 (R199). -/
def execSri3 (a : Byte) (s : State) : Result := s.storeIndexed 3 a

/-- SRI4 (R199). -/
def execSri4 (a : Byte) (s : State) : Result := s.storeIndexed 4 a

/-- SRI5 (R199). -/
def execSri5 (a : Byte) (s : State) : Result := s.storeIndexed 5 a

/-- SRI6 (R199). -/
def execSri6 (a : Byte) (s : State) : Result := s.storeIndexed 6 a

/-- SRI7 (R199). -/
def execSri7 (a : Byte) (s : State) : Result := s.storeIndexed 7 a

/-- SRI8 (R199). -/
def execSri8 (a : Byte) (s : State) : Result := s.storeIndexed 8 a

/-- SRI9 (R199). -/
def execSri9 (a : Byte) (s : State) : Result := s.storeIndexed 9 a

/-- SRI10 (R199). -/
def execSri10 (a : Byte) (s : State) : Result := s.storeIndexed 10 a

/-- SRI11 (R199). -/
def execSri11 (a : Byte) (s : State) : Result := s.storeIndexed 11 a

/-- SRI12 (R199). -/
def execSri12 (a : Byte) (s : State) : Result := s.storeIndexed 12 a

/-- SRI13 (R199). -/
def execSri13 (a : Byte) (s : State) : Result := s.storeIndexed 13 a

/-- SRI14 (R199). -/
def execSri14 (a : Byte) (s : State) : Result := s.storeIndexed 14 a

/-- SRI15 (R199). -/
def execSri15 (a : Byte) (s : State) : Result := s.storeIndexed 15 a

end Sys2Proof.Machine
end

