-- ==== Sys2Proof/Machine/Dispatch.lean ====
section
/-! DEFINITION. Which meaning each instruction has: one arm per row of spec/opcode_table.json. -/

namespace Sys2Proof.Machine

def exec (i : Instr) (s : State) : Host.Outcome State Fault Refusal :=
  match i with
  -- Addition
  | .addb a => Sys2Proof.Machine.execAddb a s
  | .adddb ab => Sys2Proof.Machine.execAdddb ab s
  | .addqb abgd => Sys2Proof.Machine.execAddqb abgd s
  | .add => Sys2Proof.Machine.execAdd s
  | .radd o => Sys2Proof.Machine.execRadd o s
  | .qadd o => Sys2Proof.Machine.execQadd o s
  | .ruadd o => Sys2Proof.Machine.execRuadd o s
  | .rvadd o => Sys2Proof.Machine.execRvadd o s
  -- Subtraction
  | .subb a => Sys2Proof.Machine.execSubb a s
  | .subdb ab => Sys2Proof.Machine.execSubdb ab s
  | .subqb abgd => Sys2Proof.Machine.execSubqb abgd s
  | .sub => Sys2Proof.Machine.execSub s
  | .rsub o => Sys2Proof.Machine.execRsub o s
  | .qsub o => Sys2Proof.Machine.execQsub o s
  | .rusub o => Sys2Proof.Machine.execRusub o s
  | .rvsub o => Sys2Proof.Machine.execRvsub o s
  -- Bitwise Logical
  | .and => Sys2Proof.Machine.execAnd s
  | .rand o => Sys2Proof.Machine.execRand o s
  | .qand o => Sys2Proof.Machine.execQand o s
  | .or => Sys2Proof.Machine.execOr s
  | .ror o => Sys2Proof.Machine.execRor o s
  | .qor o => Sys2Proof.Machine.execQor o s
  | .rxor o => Sys2Proof.Machine.execRxor o s
  -- Field Unit
  | .shl ab => Sys2Proof.Machine.execShl ab s
  | .shr ab => Sys2Proof.Machine.execShr ab s
  | .shdl ab => Sys2Proof.Machine.execShdl ab s
  | .shdr ab => Sys2Proof.Machine.execShdr ab s
  | .fsdb ab => Sys2Proof.Machine.execFsdb ab s
  | .rfu o => Sys2Proof.Machine.execRfu o s
  -- NoOps
  | .j1 => Sys2Proof.Machine.execJ1 s
  | .j2 a => Sys2Proof.Machine.execJ2 a s
  | .j3 ab => Sys2Proof.Machine.execJ3 ab s
  | .j5 abgd => Sys2Proof.Machine.execJ5 abgd s
  -- Constants
  | .lib a => Sys2Proof.Machine.execLib a s
  | .lidb ab => Sys2Proof.Machine.execLidb ab s
  | .liqb abgd => Sys2Proof.Machine.execLiqb abgd s
  | .lc0 => Sys2Proof.Machine.execLc0 s
  | .lc1 => Sys2Proof.Machine.execLc1 s
  | .lc2 => Sys2Proof.Machine.execLc2 s
  | .lc3 => Sys2Proof.Machine.execLc3 s
  | .lc4 => Sys2Proof.Machine.execLc4 s
  | .lc5 => Sys2Proof.Machine.execLc5 s
  | .lc6 => Sys2Proof.Machine.execLc6 s
  | .lc7 => Sys2Proof.Machine.execLc7 s
  | .lc8 => Sys2Proof.Machine.execLc8 s
  | .lc9 => Sys2Proof.Machine.execLc9 s
  | .lc10 => Sys2Proof.Machine.execLc10 s
  | .lc11 => Sys2Proof.Machine.execLc11 s
  -- Procedure Calls and Returns
  | .lfc ab => Sys2Proof.Machine.execLfc ab s
  | .dfc abgd => Sys2Proof.Machine.execDfc abgd s
  | .sfc => Sys2Proof.Machine.execSfc s
  | .sfci => Sys2Proof.Machine.execSfci s
  | .kfc => Sys2Proof.Machine.execKfc s
  | .retn => Sys2Proof.Machine.execRetn s
  | .ret a => Sys2Proof.Machine.execRet a s
  -- Frame and Stack Pointers
  | .dis => Sys2Proof.Machine.execDis s
  | .as a => Sys2Proof.Machine.execAs a s
  | .asl a => Sys2Proof.Machine.execAsl a s
  | .als a => Sys2Proof.Machine.execAls a s
  | .al a => Sys2Proof.Machine.execAl a s
  -- Register Copies
  | .dup => Sys2Proof.Machine.execDup s
  | .exdis => Sys2Proof.Machine.execExdis s
  | .lr0 => Sys2Proof.Machine.execLr0 s
  | .lr1 => Sys2Proof.Machine.execLr1 s
  | .lr2 => Sys2Proof.Machine.execLr2 s
  | .lr3 => Sys2Proof.Machine.execLr3 s
  | .lr4 => Sys2Proof.Machine.execLr4 s
  | .lr5 => Sys2Proof.Machine.execLr5 s
  | .lr6 => Sys2Proof.Machine.execLr6 s
  | .lr7 => Sys2Proof.Machine.execLr7 s
  | .lr8 => Sys2Proof.Machine.execLr8 s
  | .lr9 => Sys2Proof.Machine.execLr9 s
  | .lr10 => Sys2Proof.Machine.execLr10 s
  | .lr11 => Sys2Proof.Machine.execLr11 s
  | .lr12 => Sys2Proof.Machine.execLr12 s
  | .lr13 => Sys2Proof.Machine.execLr13 s
  | .lr14 => Sys2Proof.Machine.execLr14 s
  | .lr15 => Sys2Proof.Machine.execLr15 s
  | .sr0 => Sys2Proof.Machine.execSr0 s
  | .sr1 => Sys2Proof.Machine.execSr1 s
  | .sr2 => Sys2Proof.Machine.execSr2 s
  | .sr3 => Sys2Proof.Machine.execSr3 s
  | .sr4 => Sys2Proof.Machine.execSr4 s
  | .sr5 => Sys2Proof.Machine.execSr5 s
  | .sr6 => Sys2Proof.Machine.execSr6 s
  | .sr7 => Sys2Proof.Machine.execSr7 s
  | .sr8 => Sys2Proof.Machine.execSr8 s
  | .sr9 => Sys2Proof.Machine.execSr9 s
  | .sr10 => Sys2Proof.Machine.execSr10 s
  | .sr11 => Sys2Proof.Machine.execSr11 s
  | .sr12 => Sys2Proof.Machine.execSr12 s
  | .sr13 => Sys2Proof.Machine.execSr13 s
  | .sr14 => Sys2Proof.Machine.execSr14 s
  | .sr15 => Sys2Proof.Machine.execSr15 s
  -- Loads from Memory
  | .rrx o => Sys2Proof.Machine.execRrx o s
  | .qrx o => Sys2Proof.Machine.execQrx o s
  | .rb a => Sys2Proof.Machine.execRb a s
  | .rsb a => Sys2Proof.Machine.execRsb a s
  | .rx => Sys2Proof.Machine.execRx s
  | .rri o => Sys2Proof.Machine.execRri o s
  | .rai o => Sys2Proof.Machine.execRai o s
  | .lgf ab => Sys2Proof.Machine.execLgf ab s
  | .lri0 a => Sys2Proof.Machine.execLri0 a s
  | .lri1 a => Sys2Proof.Machine.execLri1 a s
  | .lri2 a => Sys2Proof.Machine.execLri2 a s
  | .lri3 a => Sys2Proof.Machine.execLri3 a s
  | .lri4 a => Sys2Proof.Machine.execLri4 a s
  | .lri5 a => Sys2Proof.Machine.execLri5 a s
  | .lri6 a => Sys2Proof.Machine.execLri6 a s
  | .lri7 a => Sys2Proof.Machine.execLri7 a s
  | .lri8 a => Sys2Proof.Machine.execLri8 a s
  | .lri9 a => Sys2Proof.Machine.execLri9 a s
  | .lri10 a => Sys2Proof.Machine.execLri10 a s
  | .lri11 a => Sys2Proof.Machine.execLri11 a s
  | .lri12 a => Sys2Proof.Machine.execLri12 a s
  | .lri13 a => Sys2Proof.Machine.execLri13 a s
  | .lri14 a => Sys2Proof.Machine.execLri14 a s
  | .lri15 a => Sys2Proof.Machine.execLri15 a s
  -- Stores to Memory
  | .wb a => Sys2Proof.Machine.execWb a s
  | .wsb a => Sys2Proof.Machine.execWsb a s
  | .psb a => Sys2Proof.Machine.execPsb a s
  | .wri o => Sys2Proof.Machine.execWri o s
  | .wai o => Sys2Proof.Machine.execWai o s
  | .cst a => Sys2Proof.Machine.execCst a s
  | .sri0 a => Sys2Proof.Machine.execSri0 a s
  | .sri1 a => Sys2Proof.Machine.execSri1 a s
  | .sri2 a => Sys2Proof.Machine.execSri2 a s
  | .sri3 a => Sys2Proof.Machine.execSri3 a s
  | .sri4 a => Sys2Proof.Machine.execSri4 a s
  | .sri5 a => Sys2Proof.Machine.execSri5 a s
  | .sri6 a => Sys2Proof.Machine.execSri6 a s
  | .sri7 a => Sys2Proof.Machine.execSri7 a s
  | .sri8 a => Sys2Proof.Machine.execSri8 a s
  | .sri9 a => Sys2Proof.Machine.execSri9 a s
  | .sri10 a => Sys2Proof.Machine.execSri10 a s
  | .sri11 a => Sys2Proof.Machine.execSri11 a s
  | .sri12 a => Sys2Proof.Machine.execSri12 a s
  | .sri13 a => Sys2Proof.Machine.execSri13 a s
  | .sri14 a => Sys2Proof.Machine.execSri14 a s
  | .sri15 a => Sys2Proof.Machine.execSri15 a s
  -- Unconditional Jumps
  | .jb a => Sys2Proof.Machine.execJb a s
  | .jdb ab => Sys2Proof.Machine.execJdb ab s
  | .jqb abgd => Sys2Proof.Machine.execJqb abgd s
  | .jsd => Sys2Proof.Machine.execJsd s
  | .jsr => Sys2Proof.Machine.execJsr s
  -- Conditional Jumps
  | .jebb a b => Sys2Proof.Machine.execJebb a b s
  | .jebbj a b => Sys2Proof.Machine.execJebbj a b s
  | .jnebb a b => Sys2Proof.Machine.execJnebb a b s
  | .jnebbj a b => Sys2Proof.Machine.execJnebbj a b s
  | .rjlb o => Sys2Proof.Machine.execRjlb o s
  | .rjlbj o => Sys2Proof.Machine.execRjlbj o s
  | .rjleb o => Sys2Proof.Machine.execRjleb o s
  | .rjlebj o => Sys2Proof.Machine.execRjlebj o s
  | .rjeb o => Sys2Proof.Machine.execRjeb o s
  | .rjebj o => Sys2Proof.Machine.execRjebj o s
  | .rjneb o => Sys2Proof.Machine.execRjneb o s
  | .rjnebj o => Sys2Proof.Machine.execRjnebj o s
  | .rjgeb o => Sys2Proof.Machine.execRjgeb o s
  | .rjgebj o => Sys2Proof.Machine.execRjgebj o s
  | .rjgb o => Sys2Proof.Machine.execRjgb o s
  | .rjgbj o => Sys2Proof.Machine.execRjgbj o s
  -- Bounds Checks
  | .rbc o => Sys2Proof.Machine.execRbc o s
  | .bc => Sys2Proof.Machine.execBc s
  | .qbc o => Sys2Proof.Machine.execQbc o s
  -- Lisp Instructions
  | .ladd => Sys2Proof.Machine.execLadd s
  | .qladd o => Sys2Proof.Machine.execQladd o s
  | .rladd o => Sys2Proof.Machine.execRladd o s
  | .lsub => Sys2Proof.Machine.execLsub s
  | .qlsub o => Sys2Proof.Machine.execQlsub o s
  | .rlsub o => Sys2Proof.Machine.execRlsub o s
  -- Input and Output
  | .lip a => Sys2Proof.Machine.execLip a s
  | .sip a => Sys2Proof.Machine.execSip a s
  | .iod o => Sys2Proof.Machine.execIod o s
  | .ioda o => Sys2Proof.Machine.execIoda o s
  | .ion o => Sys2Proof.Machine.execIon o s

end Sys2Proof.Machine
end

