-- ==== Sys2Proof/WellFormed.lean ====
section
/-! DEFINITION. Which instruction terms have a meaning: a literal field descriptor must be in the range R130 declares. Every other
restriction of the encoding (constant numbers below 12, no Rc code 15) is carried by the types of Syntax. -/

namespace Sys2Proof

/-- The literal descriptor of R130: pad bits 15..13 zero, width (bits 11..6) and shift (bits 5..0) at most 32. -/
def descriptorOk (ab : Half) : Bool :=
  ab.extractLsb' 13 3 == 0 && decide ((ab.extractLsb' 6 6).toNat ≤ 32) && decide ((ab.extractLsb' 0 6).toNat ≤ 32)

/-- The check of R93 on an instruction: FSDB's literal is not checked (R136), RFU's descriptor is in Field (R137). -/
def wellFormed : Instr → Bool
  -- Addition
  | .addb _ | .adddb _ | .addqb _ | .add | .radd _ | .qadd _ | .ruadd _ | .rvadd _ => true
  -- Subtraction
  | .subb _ | .subdb _ | .subqb _ | .sub | .rsub _ | .qsub _ | .rusub _ | .rvsub _ => true
  -- Bitwise Logical
  | .and | .rand _ | .qand _ | .or | .ror _ | .qor _ | .rxor _ => true
  -- Field Unit
  | .shl ab => descriptorOk ab
  | .shr ab => descriptorOk ab
  | .shdl ab => descriptorOk ab
  | .shdr ab => descriptorOk ab
  | .fsdb _ | .rfu _ => true
  -- NoOps
  | .j1 | .j2 _ | .j3 _ | .j5 _ => true
  -- Constants
  | .lib _ | .lidb _ | .liqb _ | .lc0 | .lc1 | .lc2 | .lc3 | .lc4 | .lc5 | .lc6 | .lc7 | .lc8 | .lc9 | .lc10 | .lc11 => true
  -- Procedure Calls and Returns
  | .lfc _ | .dfc _ | .sfc | .sfci | .kfc | .retn | .ret _ => true
  -- Frame and Stack Pointers
  | .dis | .as _ | .asl _ | .als _ | .al _ => true
  -- Register Copies
  | .dup | .exdis | .lr0 | .lr1 | .lr2 | .lr3 | .lr4 | .lr5 | .lr6 | .lr7 | .lr8 | .lr9 | .lr10 | .lr11 | .lr12 | .lr13
  | .lr14 | .lr15 | .sr0 | .sr1 | .sr2 | .sr3 | .sr4 | .sr5 | .sr6 | .sr7 | .sr8 | .sr9 | .sr10 | .sr11 | .sr12 | .sr13
  | .sr14 | .sr15 => true
  -- Loads from Memory
  | .rrx _ | .qrx _ | .rb _ | .rsb _ | .rx | .rri _ | .rai _ | .lgf _ | .lri0 _ | .lri1 _ | .lri2 _ | .lri3 _ | .lri4 _
  | .lri5 _ | .lri6 _ | .lri7 _ | .lri8 _ | .lri9 _ | .lri10 _ | .lri11 _ | .lri12 _ | .lri13 _ | .lri14 _ | .lri15 _ => true
  -- Stores to Memory
  | .wb _ | .wsb _ | .psb _ | .wri _ | .wai _ | .cst _ | .sri0 _ | .sri1 _ | .sri2 _ | .sri3 _ | .sri4 _ | .sri5 _
  | .sri6 _ | .sri7 _ | .sri8 _ | .sri9 _ | .sri10 _ | .sri11 _ | .sri12 _ | .sri13 _ | .sri14 _ | .sri15 _ => true
  -- Unconditional Jumps
  | .jb _ | .jdb _ | .jqb _ | .jsd | .jsr => true
  -- Conditional Jumps
  | .jebb _ _ | .jebbj _ _ | .jnebb _ _ | .jnebbj _ _ | .rjlb _ | .rjlbj _ | .rjleb _ | .rjlebj _ | .rjeb _ | .rjebj _
  | .rjneb _ | .rjnebj _ | .rjgeb _ | .rjgebj _ | .rjgb _ | .rjgbj _ => true
  -- Bounds Checks
  | .rbc _ | .bc | .qbc _ => true
  -- Lisp Instructions
  | .ladd | .qladd _ | .rladd _ | .lsub | .qlsub _ | .rlsub _ => true
  -- Input and Output
  | .lip _ | .sip _ | .iod _ | .ioda _ | .ion _ => true

end Sys2Proof
end

