-- ==== Sys2Proof/Decode.lean ====
section
/-! DEFINITION. From bytes to instructions and back (spec/30_encoding.md R70 to R93): a decoder and an encoder that take the opcode map,
the operand codes and the LIO split as an argument (R6, R88), the reference values of the three, and the decoder at these. -/

namespace Sys2Proof

/-! The reference coding -/

/-- REF_OPC, the reference value of OPC (R90, D3; log 1). -/
def Config.refOpc : Mnemonic → Byte
  -- Addition
  | .addb => 0x10 | .adddb => 0x11 | .addqb => 0x12 | .add => 0x13 | .radd => 0x14 | .qadd => 0x15 | .ruadd => 0x16
  | .rvadd => 0x17
  -- Subtraction
  | .subb => 0x18 | .subdb => 0x19 | .subqb => 0x1A | .sub => 0x1B | .rsub => 0x1C | .qsub => 0x1D | .rusub => 0x1E
  | .rvsub => 0x1F
  -- Bitwise Logical
  | .and => 0x20 | .rand => 0x21 | .qand => 0x22 | .or => 0x23 | .ror => 0x24 | .qor => 0x25 | .rxor => 0x26
  -- Field Unit
  | .shl => 0x28 | .shr => 0x29 | .shdl => 0x2A | .shdr => 0x2B | .fsdb => 0x2C | .rfu => 0x2D
  -- NoOps
  | .j1 => 0x30 | .j2 => 0x31 | .j3 => 0x32 | .j5 => 0x33
  -- Constants
  | .lib => 0x34 | .lidb => 0x35 | .liqb => 0x36 | .lc0 => 0x40 | .lc1 => 0x41 | .lc2 => 0x42 | .lc3 => 0x43
  | .lc4 => 0x44 | .lc5 => 0x45 | .lc6 => 0x46 | .lc7 => 0x47 | .lc8 => 0x48 | .lc9 => 0x49 | .lc10 => 0x4A
  | .lc11 => 0x4B
  -- Procedure Calls and Returns
  | .lfc => 0x50 | .dfc => 0x51 | .sfc => 0x52 | .sfci => 0x53 | .kfc => 0x54 | .retn => 0x55 | .ret => 0x56
  -- Frame and Stack Pointers
  | .dis => 0x58 | .as => 0x59 | .asl => 0x5A | .als => 0x5B | .al => 0x5C
  -- Register Copies
  | .dup => 0x5E | .exdis => 0x5F | .lr0 => 0x60 | .lr1 => 0x61 | .lr2 => 0x62 | .lr3 => 0x63 | .lr4 => 0x64
  | .lr5 => 0x65 | .lr6 => 0x66 | .lr7 => 0x67 | .lr8 => 0x68 | .lr9 => 0x69 | .lr10 => 0x6A | .lr11 => 0x6B
  | .lr12 => 0x6C | .lr13 => 0x6D | .lr14 => 0x6E | .lr15 => 0x6F | .sr0 => 0x70 | .sr1 => 0x71 | .sr2 => 0x72
  | .sr3 => 0x73 | .sr4 => 0x74 | .sr5 => 0x75 | .sr6 => 0x76 | .sr7 => 0x77 | .sr8 => 0x78 | .sr9 => 0x79
  | .sr10 => 0x7A | .sr11 => 0x7B | .sr12 => 0x7C | .sr13 => 0x7D | .sr14 => 0x7E | .sr15 => 0x7F
  -- Loads from Memory
  | .rrx => 0x80 | .qrx => 0x81 | .rb => 0x82 | .rsb => 0x83 | .rx => 0x84 | .rri => 0x85 | .rai => 0x86
  | .lgf => 0x87 | .lri0 => 0x90 | .lri1 => 0x91 | .lri2 => 0x92 | .lri3 => 0x93 | .lri4 => 0x94 | .lri5 => 0x95
  | .lri6 => 0x96 | .lri7 => 0x97 | .lri8 => 0x98 | .lri9 => 0x99 | .lri10 => 0x9A | .lri11 => 0x9B | .lri12 => 0x9C
  | .lri13 => 0x9D | .lri14 => 0x9E | .lri15 => 0x9F
  -- Stores to Memory
  | .wb => 0xA0 | .wsb => 0xA1 | .psb => 0xA2 | .wri => 0xA3 | .wai => 0xA4 | .cst => 0xA5 | .sri0 => 0xB0
  | .sri1 => 0xB1 | .sri2 => 0xB2 | .sri3 => 0xB3 | .sri4 => 0xB4 | .sri5 => 0xB5 | .sri6 => 0xB6 | .sri7 => 0xB7
  | .sri8 => 0xB8 | .sri9 => 0xB9 | .sri10 => 0xBA | .sri11 => 0xBB | .sri12 => 0xBC | .sri13 => 0xBD
  | .sri14 => 0xBE | .sri15 => 0xBF
  -- Unconditional Jumps
  | .jb => 0xC0 | .jdb => 0xC1 | .jqb => 0xC2 | .jsd => 0xC3 | .jsr => 0xC4
  -- Conditional Jumps
  | .jebb => 0xD0 | .jebbj => 0xD1 | .jnebb => 0xD2 | .jnebbj => 0xD3 | .rjlb => 0xD4 | .rjlbj => 0xD5
  | .rjleb => 0xD6 | .rjlebj => 0xD7 | .rjeb => 0xD8 | .rjebj => 0xD9 | .rjneb => 0xDA | .rjnebj => 0xDB
  | .rjgeb => 0xDC | .rjgebj => 0xDD | .rjgb => 0xDE | .rjgbj => 0xDF
  -- Bounds Checks
  | .rbc => 0xE0 | .bc => 0xE1 | .qbc => 0xE2
  -- Lisp Instructions
  | .ladd => 0xE8 | .qladd => 0xE9 | .rladd => 0xEA | .lsub => 0xEB | .qlsub => 0xEC | .rlsub => 0xED
  -- Input and Output
  | .lip => 0xF0 | .sip => 0xF1 | .iod => 0xF2 | .ioda => 0xF3 | .ion => 0xF4

/-- REGCODE at its reference value (R78 to R85, D4, D5; log 2). -/
def Config.regCode : Config.RegCode where
  aOpt := 7
  cOpt := 6
  bOpt := 5
  fileFlag := 4
  rb := 0
  rc := 4
  ra := 0
  q := 6
  t := 6
  regA := 4
  regB := 0
  files := #v[.locals, .aux]
  optSrc := #v[.const 0, .const 1, .const 2, .const 3, .const 4, .const 5, .const 6, .const 7, .const 8, .const 9, .const 10, .const 11,
    .top, .second, .topPop, .secondPop]
  optDst := #v[some (.const 0), some (.const 1), some (.const 2), some (.const 3), some (.const 4), some (.const 5), some (.const 6),
    some (.const 7), some (.const 8), some (.const 9), some (.const 10), some (.const 11), some .top, some .second, some .push, none]
  qForms := #v[.topToTop, .topToPush, .const0ToPush, .const1ToPush]
  tForms := #v[.top, .topPop, .const0, .const1]

/-- LIO_SPLIT at its reference value (R86, D6; log 2). -/
def Config.lioSplit : Config.LioSplit := .addressFirst

/-- The reference coding: REF_OPC, REGCODE and LIO_SPLIT. -/
def Config.coding : Config.Coding := ⟨Config.refOpc, Config.regCode, Config.lioSplit⟩

/-! Opcodes and formats -/

/-- Why a byte sequence is no instruction. -/
inductive DecodeError where
  | unassignedOpcode (op : Byte)   -- R92
  | reservedRcCode                 -- R81, R93
  | fieldDescriptor                -- R130, R93
  | tooShort                       -- the bytes end before the instruction does
deriving DecidableEq, Repr

/-- An opcode's format (R71) with the constructor its operands are given to. -/
inductive Form where
  | i (f : Instr)
  | lr (f : Instr)
  | lb (f : Byte → Instr)
  | lh (f : Half → Instr)
  | lw (f : Word → Instr)
  | rrr (f : RRR → Instr)
  | qr (f : QR → Instr)
  | rd (f : RD → Instr)
  | lbd (f : Byte → Byte → Instr)
  | xo (f : Byte → Instr)
  | xro (f : XRO → Instr)
  | lio (f : LIO → Instr)

/-- The length in bytes a format fixes (R71). -/
def Form.length : Form → Nat
  | .i _ | .lr _ => 1
  | .lb _ | .qr _ | .xo _ => 2
  | .lh _ | .rrr _ | .rd _ | .lbd _ | .xro _ | .lio _ => 3
  | .lw _ => 5

/-- The format of a mnemonic and its constructor (R71, R89). -/
def Mnemonic.form : Mnemonic → Form
  -- Addition
  | .addb => .lb .addb | .adddb => .lh .adddb | .addqb => .lw .addqb | .add => .i .add | .radd => .rrr .radd
  | .qadd => .qr .qadd | .ruadd => .rrr .ruadd | .rvadd => .rrr .rvadd
  -- Subtraction
  | .subb => .lb .subb | .subdb => .lh .subdb | .subqb => .lw .subqb | .sub => .i .sub | .rsub => .rrr .rsub
  | .qsub => .qr .qsub | .rusub => .rrr .rusub | .rvsub => .rrr .rvsub
  -- Bitwise Logical
  | .and => .i .and | .rand => .rrr .rand | .qand => .qr .qand | .or => .i .or | .ror => .rrr .ror | .qor => .qr .qor
  | .rxor => .rrr .rxor
  -- Field Unit
  | .shl => .lh .shl | .shr => .lh .shr | .shdl => .lh .shdl | .shdr => .lh .shdr | .fsdb => .lh .fsdb
  | .rfu => .rrr .rfu
  -- NoOps
  | .j1 => .i .j1 | .j2 => .lb .j2 | .j3 => .lh .j3 | .j5 => .lw .j5
  -- Constants
  | .lib => .lb .lib | .lidb => .lh .lidb | .liqb => .lw .liqb | .lc0 => .i .lc0 | .lc1 => .i .lc1 | .lc2 => .i .lc2
  | .lc3 => .i .lc3 | .lc4 => .i .lc4 | .lc5 => .i .lc5 | .lc6 => .i .lc6 | .lc7 => .i .lc7 | .lc8 => .i .lc8
  | .lc9 => .i .lc9 | .lc10 => .i .lc10 | .lc11 => .i .lc11
  -- Procedure Calls and Returns
  | .lfc => .lh .lfc | .dfc => .lw .dfc | .sfc => .i .sfc | .sfci => .i .sfci | .kfc => .i .kfc | .retn => .i .retn
  | .ret => .lb .ret
  -- Frame and Stack Pointers
  | .dis => .i .dis | .as => .lb .as | .asl => .lb .asl | .als => .lb .als | .al => .lb .al
  -- Register Copies
  | .dup => .i .dup | .exdis => .i .exdis | .lr0 => .lr .lr0 | .lr1 => .lr .lr1 | .lr2 => .lr .lr2 | .lr3 => .lr .lr3
  | .lr4 => .lr .lr4 | .lr5 => .lr .lr5 | .lr6 => .lr .lr6 | .lr7 => .lr .lr7 | .lr8 => .lr .lr8 | .lr9 => .lr .lr9
  | .lr10 => .lr .lr10 | .lr11 => .lr .lr11 | .lr12 => .lr .lr12 | .lr13 => .lr .lr13 | .lr14 => .lr .lr14
  | .lr15 => .lr .lr15 | .sr0 => .lr .sr0 | .sr1 => .lr .sr1 | .sr2 => .lr .sr2 | .sr3 => .lr .sr3 | .sr4 => .lr .sr4
  | .sr5 => .lr .sr5 | .sr6 => .lr .sr6 | .sr7 => .lr .sr7 | .sr8 => .lr .sr8 | .sr9 => .lr .sr9 | .sr10 => .lr .sr10
  | .sr11 => .lr .sr11 | .sr12 => .lr .sr12 | .sr13 => .lr .sr13 | .sr14 => .lr .sr14 | .sr15 => .lr .sr15
  -- Loads from Memory
  | .rrx => .rrr .rrx | .qrx => .qr .qrx | .rb => .lb .rb | .rsb => .lb .rsb | .rx => .i .rx | .rri => .xro .rri
  | .rai => .xro .rai | .lgf => .lh .lgf | .lri0 => .xo .lri0 | .lri1 => .xo .lri1 | .lri2 => .xo .lri2
  | .lri3 => .xo .lri3 | .lri4 => .xo .lri4 | .lri5 => .xo .lri5 | .lri6 => .xo .lri6 | .lri7 => .xo .lri7
  | .lri8 => .xo .lri8 | .lri9 => .xo .lri9 | .lri10 => .xo .lri10 | .lri11 => .xo .lri11 | .lri12 => .xo .lri12
  | .lri13 => .xo .lri13 | .lri14 => .xo .lri14 | .lri15 => .xo .lri15
  -- Stores to Memory
  | .wb => .lb .wb | .wsb => .lb .wsb | .psb => .lb .psb | .wri => .xro .wri | .wai => .xro .wai | .cst => .lb .cst
  | .sri0 => .xo .sri0 | .sri1 => .xo .sri1 | .sri2 => .xo .sri2 | .sri3 => .xo .sri3 | .sri4 => .xo .sri4
  | .sri5 => .xo .sri5 | .sri6 => .xo .sri6 | .sri7 => .xo .sri7 | .sri8 => .xo .sri8 | .sri9 => .xo .sri9
  | .sri10 => .xo .sri10 | .sri11 => .xo .sri11 | .sri12 => .xo .sri12 | .sri13 => .xo .sri13 | .sri14 => .xo .sri14
  | .sri15 => .xo .sri15
  -- Unconditional Jumps
  | .jb => .lb .jb | .jdb => .lh .jdb | .jqb => .lw .jqb | .jsd => .i .jsd | .jsr => .i .jsr
  -- Conditional Jumps
  | .jebb => .lbd .jebb | .jebbj => .lbd .jebbj | .jnebb => .lbd .jnebb | .jnebbj => .lbd .jnebbj
  | .rjlb => .rd .rjlb | .rjlbj => .rd .rjlbj | .rjleb => .rd .rjleb | .rjlebj => .rd .rjlebj | .rjeb => .rd .rjeb
  | .rjebj => .rd .rjebj | .rjneb => .rd .rjneb | .rjnebj => .rd .rjnebj | .rjgeb => .rd .rjgeb
  | .rjgebj => .rd .rjgebj | .rjgb => .rd .rjgb | .rjgbj => .rd .rjgbj
  -- Bounds Checks
  | .rbc => .rrr .rbc | .bc => .i .bc | .qbc => .qr .qbc
  -- Lisp Instructions
  | .ladd => .i .ladd | .qladd => .qr .qladd | .rladd => .rrr .rladd | .lsub => .i .lsub | .qlsub => .qr .qlsub
  | .rlsub => .rrr .rlsub
  -- Input and Output
  | .lip => .lb .lip | .sip => .lb .sip | .iod => .lio .iod | .ioda => .lio .ioda | .ion => .lio .ion

/-- The 175 mnemonics, in the order of the opcode table. -/
def Mnemonic.all : List Mnemonic :=
  [.addb, .adddb, .addqb, .add, .radd, .qadd, .ruadd, .rvadd] ++
  [.subb, .subdb, .subqb, .sub, .rsub, .qsub, .rusub, .rvsub] ++
  [.and, .rand, .qand, .or, .ror, .qor, .rxor] ++
  [.shl, .shr, .shdl, .shdr, .fsdb, .rfu] ++
  [.j1, .j2, .j3, .j5] ++
  [.lib, .lidb, .liqb, .lc0, .lc1, .lc2, .lc3, .lc4, .lc5, .lc6, .lc7, .lc8, .lc9, .lc10, .lc11] ++
  [.lfc, .dfc, .sfc, .sfci, .kfc, .retn, .ret] ++
  [.dis, .as, .asl, .als, .al] ++
  [.dup, .exdis, .lr0, .lr1, .lr2, .lr3, .lr4, .lr5, .lr6, .lr7, .lr8, .lr9, .lr10, .lr11, .lr12, .lr13, .lr14,
   .lr15, .sr0, .sr1, .sr2, .sr3, .sr4, .sr5, .sr6, .sr7, .sr8, .sr9, .sr10, .sr11, .sr12, .sr13, .sr14, .sr15] ++
  [.rrx, .qrx, .rb, .rsb, .rx, .rri, .rai, .lgf, .lri0, .lri1, .lri2, .lri3, .lri4, .lri5, .lri6, .lri7, .lri8,
   .lri9, .lri10, .lri11, .lri12, .lri13, .lri14, .lri15] ++
  [.wb, .wsb, .psb, .wri, .wai, .cst, .sri0, .sri1, .sri2, .sri3, .sri4, .sri5, .sri6, .sri7, .sri8, .sri9, .sri10,
   .sri11, .sri12, .sri13, .sri14, .sri15] ++
  [.jb, .jdb, .jqb, .jsd, .jsr] ++
  [.jebb, .jebbj, .jnebb, .jnebbj, .rjlb, .rjlbj, .rjleb, .rjlebj, .rjeb, .rjebj, .rjneb, .rjnebj, .rjgeb, .rjgebj,
   .rjgb, .rjgbj] ++
  [.rbc, .bc, .qbc] ++
  [.ladd, .qladd, .rladd, .lsub, .qlsub, .rlsub] ++
  [.lip, .sip, .iod, .ioda, .ion]

/-- The mnemonic that an opcode map gives a byte value to; none where the byte is unassigned (R88, R92). -/
def mnemonicOf (opc : Mnemonic → Byte) (op : Byte) : Option Mnemonic := Mnemonic.all.find? fun m => opc m == op

/-! Operand fields -/

/-- The register file that the `A` flag selects (R78). -/
def regFileOf (c : Config.RegCode) (flag : Bool) : RegFile := c.files[flag.toNat]'(Bool.toNat_lt flag)

/-- Ra and Rb from their option flag and 4-bit field (R79, R80). -/
def srcOf (c : Config.RegCode) (opt : Bool) (f : BitVec 4) : Src := if opt then c.optSrc[f.toNat]'f.isLt else .reg f

/-- Rc from its option flag and 4-bit field, none for a reserved code (R81). -/
def dstOf (c : Config.RegCode) (opt : Bool) (f : BitVec 4) : Option Dst := if opt then c.optDst[f.toNat]'f.isLt else some (.reg f)

/-- Q (R82). -/
def qOf (c : Config.RegCode) (q : BitVec 2) : QSel := c.qForms[q.toNat]'q.isLt

/-- T (R83). -/
def tOf (c : Config.RegCode) (t : BitVec 2) : TSel := c.tForms[t.toNat]'t.isLt

/-- Format RRR: aOpt, cOpt, bOpt, A and Rb in byte 1, Rc and Ra in byte 2 (R77). -/
def rrrOf (c : Config.RegCode) (x y : Byte) : Option RRR :=
  match dstOf c (x.getLsbD c.cOpt) (y.extractLsb' c.rc 4) with
  | none => none
  | some rc => some ⟨regFileOf c (x.getLsbD c.fileFlag), srcOf c (x.getLsbD c.aOpt) (y.extractLsb' c.ra 4),
      srcOf c (x.getLsbD c.bOpt) (x.extractLsb' c.rb 4), rc⟩

/-- Format QR: Q, bOpt, A and Rb in byte 1 (R82). -/
def qrOf (c : Config.RegCode) (x : Byte) : QR :=
  ⟨qOf c (x.extractLsb' c.q 2), regFileOf c (x.getLsbD c.fileFlag), srcOf c (x.getLsbD c.bOpt) (x.extractLsb' c.rb 4)⟩

/-- Format RD: T, bOpt, A and Rb in byte 1, the displacement in byte 2 (R83). -/
def rdOf (c : Config.RegCode) (x disp : Byte) : RD :=
  ⟨tOf c (x.extractLsb' c.t 2), regFileOf c (x.getLsbD c.fileFlag), srcOf c (x.getLsbD c.bOpt) (x.extractLsb' c.rb 4), disp⟩

/-- Format XRO: regA and regB in byte 1, the offset in byte 2 (R85). -/
def xroOf (c : Config.RegCode) (x off : Byte) : XRO := ⟨x.extractLsb' c.regA 4, x.extractLsb' c.regB 4, off⟩

/-- Format LIO: Address and PCmd in bytes 1 and 2, in the order LIO_SPLIT says (R86). -/
def lioOf (split : Config.LioSplit) (a b : Byte) : LIO :=
  match split with
  | .addressFirst => ⟨a, b⟩
  | .commandFirst => ⟨b, a⟩

/-- The double byte `ab`, a most significant (R8). -/
def halfOf (a b : Byte) : Half := a ++ b

/-- The word `abgd`, a most significant (R8). -/
def wordOf (a b g d : Byte) : Word := a ++ b ++ g ++ d

/-! The decoder -/

/-- The operand bytes of a format, the bytes after them left over. -/
def decodeForm (c : Config.Coding) : Form → List Byte → Except DecodeError (Instr × List Byte)
  | .i f, r => .ok (f, r)
  | .lr f, r => .ok (f, r)
  | .lb f, a :: r => .ok (f a, r)
  | .xo f, a :: r => .ok (f a, r)
  | .qr f, a :: r => .ok (f (qrOf c.regCode a), r)
  | .lh f, a :: b :: r => .ok (f (halfOf a b), r)
  | .lbd f, a :: b :: r => .ok (f a b, r)
  | .rd f, a :: b :: r => .ok (f (rdOf c.regCode a b), r)
  | .xro f, a :: b :: r => .ok (f (xroOf c.regCode a b), r)
  | .lio f, a :: b :: r => .ok (f (lioOf c.lioSplit a b), r)
  | .rrr f, a :: b :: r =>
    match rrrOf c.regCode a b with
    | none => .error .reservedRcCode
    | some o => .ok (f o, r)
  | .lw f, a :: b :: g :: d :: r => .ok (f (wordOf a b g d), r)
  | _, _ => .error .tooShort

/-- The instruction at the head of a byte sequence under a coding, and the bytes after it (R70, R88, R92, R93). -/
def decodeWith (c : Config.Coding) : List Byte → Except DecodeError (Instr × List Byte)
  | [] => .error .tooShort
  | op :: r =>
    match mnemonicOf c.opc op with
    | none => .error (.unassignedOpcode op)
    | some m =>
      match decodeForm c m.form r with
      | .error e => .error e
      | .ok (i, rest) => if wellFormed i then .ok (i, rest) else .error .fieldDescriptor

/-- The decoder at the reference coding. -/
def decode (bs : List Byte) : Except DecodeError (Instr × List Byte) := decodeWith Config.coding bs

/-- How many bytes the instruction with this opcode has in the reference coding; none for an unassigned opcode (R70). -/
def opLength (op : Byte) : Option Nat := (mnemonicOf Config.coding.opc op).map fun m => m.form.length

/-! The encoder -/

/-- The mnemonic of an instruction. -/
def Instr.mnemonic : Instr → Mnemonic
  -- Addition
  | .addb _ => .addb | .adddb _ => .adddb | .addqb _ => .addqb | .add => .add | .radd _ => .radd | .qadd _ => .qadd
  | .ruadd _ => .ruadd | .rvadd _ => .rvadd
  -- Subtraction
  | .subb _ => .subb | .subdb _ => .subdb | .subqb _ => .subqb | .sub => .sub | .rsub _ => .rsub | .qsub _ => .qsub
  | .rusub _ => .rusub | .rvsub _ => .rvsub
  -- Bitwise Logical
  | .and => .and | .rand _ => .rand | .qand _ => .qand | .or => .or | .ror _ => .ror | .qor _ => .qor
  | .rxor _ => .rxor
  -- Field Unit
  | .shl _ => .shl | .shr _ => .shr | .shdl _ => .shdl | .shdr _ => .shdr | .fsdb _ => .fsdb | .rfu _ => .rfu
  -- NoOps
  | .j1 => .j1 | .j2 _ => .j2 | .j3 _ => .j3 | .j5 _ => .j5
  -- Constants
  | .lib _ => .lib | .lidb _ => .lidb | .liqb _ => .liqb | .lc0 => .lc0 | .lc1 => .lc1 | .lc2 => .lc2 | .lc3 => .lc3
  | .lc4 => .lc4 | .lc5 => .lc5 | .lc6 => .lc6 | .lc7 => .lc7 | .lc8 => .lc8 | .lc9 => .lc9 | .lc10 => .lc10
  | .lc11 => .lc11
  -- Procedure Calls and Returns
  | .lfc _ => .lfc | .dfc _ => .dfc | .sfc => .sfc | .sfci => .sfci | .kfc => .kfc | .retn => .retn | .ret _ => .ret
  -- Frame and Stack Pointers
  | .dis => .dis | .as _ => .as | .asl _ => .asl | .als _ => .als | .al _ => .al
  -- Register Copies
  | .dup => .dup | .exdis => .exdis | .lr0 => .lr0 | .lr1 => .lr1 | .lr2 => .lr2 | .lr3 => .lr3 | .lr4 => .lr4
  | .lr5 => .lr5 | .lr6 => .lr6 | .lr7 => .lr7 | .lr8 => .lr8 | .lr9 => .lr9 | .lr10 => .lr10 | .lr11 => .lr11
  | .lr12 => .lr12 | .lr13 => .lr13 | .lr14 => .lr14 | .lr15 => .lr15 | .sr0 => .sr0 | .sr1 => .sr1 | .sr2 => .sr2
  | .sr3 => .sr3 | .sr4 => .sr4 | .sr5 => .sr5 | .sr6 => .sr6 | .sr7 => .sr7 | .sr8 => .sr8 | .sr9 => .sr9
  | .sr10 => .sr10 | .sr11 => .sr11 | .sr12 => .sr12 | .sr13 => .sr13 | .sr14 => .sr14 | .sr15 => .sr15
  -- Loads from Memory
  | .rrx _ => .rrx | .qrx _ => .qrx | .rb _ => .rb | .rsb _ => .rsb | .rx => .rx | .rri _ => .rri | .rai _ => .rai
  | .lgf _ => .lgf | .lri0 _ => .lri0 | .lri1 _ => .lri1 | .lri2 _ => .lri2 | .lri3 _ => .lri3 | .lri4 _ => .lri4
  | .lri5 _ => .lri5 | .lri6 _ => .lri6 | .lri7 _ => .lri7 | .lri8 _ => .lri8 | .lri9 _ => .lri9 | .lri10 _ => .lri10
  | .lri11 _ => .lri11 | .lri12 _ => .lri12 | .lri13 _ => .lri13 | .lri14 _ => .lri14 | .lri15 _ => .lri15
  -- Stores to Memory
  | .wb _ => .wb | .wsb _ => .wsb | .psb _ => .psb | .wri _ => .wri | .wai _ => .wai | .cst _ => .cst
  | .sri0 _ => .sri0 | .sri1 _ => .sri1 | .sri2 _ => .sri2 | .sri3 _ => .sri3 | .sri4 _ => .sri4 | .sri5 _ => .sri5
  | .sri6 _ => .sri6 | .sri7 _ => .sri7 | .sri8 _ => .sri8 | .sri9 _ => .sri9 | .sri10 _ => .sri10
  | .sri11 _ => .sri11 | .sri12 _ => .sri12 | .sri13 _ => .sri13 | .sri14 _ => .sri14 | .sri15 _ => .sri15
  -- Unconditional Jumps
  | .jb _ => .jb | .jdb _ => .jdb | .jqb _ => .jqb | .jsd => .jsd | .jsr => .jsr
  -- Conditional Jumps
  | .jebb _ _ => .jebb | .jebbj _ _ => .jebbj | .jnebb _ _ => .jnebb | .jnebbj _ _ => .jnebbj | .rjlb _ => .rjlb
  | .rjlbj _ => .rjlbj | .rjleb _ => .rjleb | .rjlebj _ => .rjlebj | .rjeb _ => .rjeb | .rjebj _ => .rjebj
  | .rjneb _ => .rjneb | .rjnebj _ => .rjnebj | .rjgeb _ => .rjgeb | .rjgebj _ => .rjgebj | .rjgb _ => .rjgb
  | .rjgbj _ => .rjgbj
  -- Bounds Checks
  | .rbc _ => .rbc | .bc => .bc | .qbc _ => .qbc
  -- Lisp Instructions
  | .ladd => .ladd | .qladd _ => .qladd | .rladd _ => .rladd | .lsub => .lsub | .qlsub _ => .qlsub
  | .rlsub _ => .rlsub
  -- Input and Output
  | .lip _ => .lip | .sip _ => .sip | .iod _ => .iod | .ioda _ => .ioda | .ion _ => .ion

/-- `aOpt` or `bOpt` (R79). -/
def Src.opt : Src → Bool
  | .reg _ => false
  | .const _ | .top | .second | .topPop | .secondPop => true

/-- The 4-bit field of Ra or Rb (R79). -/
def Src.code (c : Config.RegCode) : Src → BitVec 4
  | .reg n => n
  | .const m => BitVec.ofNat 4 (c.optSrc.toList.idxOf (.const m))
  | .top => BitVec.ofNat 4 (c.optSrc.toList.idxOf .top)
  | .second => BitVec.ofNat 4 (c.optSrc.toList.idxOf .second)
  | .topPop => BitVec.ofNat 4 (c.optSrc.toList.idxOf .topPop)
  | .secondPop => BitVec.ofNat 4 (c.optSrc.toList.idxOf .secondPop)

/-- `cOpt` (R81). -/
def Dst.opt : Dst → Bool
  | .reg _ => false
  | .const _ | .top | .second | .push => true

/-- The 4-bit field of Rc (R81). -/
def Dst.code (c : Config.RegCode) : Dst → BitVec 4
  | .reg n => n
  | .const m => BitVec.ofNat 4 (c.optDst.toList.idxOf (some (.const m)))
  | .top => BitVec.ofNat 4 (c.optDst.toList.idxOf (some .top))
  | .second => BitVec.ofNat 4 (c.optDst.toList.idxOf (some .second))
  | .push => BitVec.ofNat 4 (c.optDst.toList.idxOf (some .push))

/-- Q's number (R82). -/
def QSel.code (c : Config.RegCode) (q : QSel) : BitVec 2 := BitVec.ofNat 2 (c.qForms.toList.idxOf q)

/-- T's number (R83). -/
def TSel.code (c : Config.RegCode) (t : TSel) : BitVec 2 := BitVec.ofNat 2 (c.tForms.toList.idxOf t)

/-- The `A` flag (R78). -/
def RegFile.flag (c : Config.RegCode) (f : RegFile) : BitVec 1 := BitVec.ofNat 1 (c.files.toList.idxOf f)

/-- The byte that holds a field with its lowest bit at `pos` and zeros elsewhere. -/
def fieldAt {w : Nat} (v : BitVec w) (pos : Nat) : Byte := v.setWidth 8 <<< pos

/-- bOpt, A and Rb in byte 1 of RRR, QR and RD (R77, R82, R83). -/
def rbBits (c : Config.RegCode) (file : RegFile) (rb : Src) : Byte :=
  fieldAt (BitVec.ofBool rb.opt) c.bOpt ||| fieldAt (file.flag c) c.fileFlag ||| fieldAt (rb.code c) c.rb

def rrrBytes (c : Config.RegCode) (o : RRR) : List Byte :=
  [fieldAt (BitVec.ofBool o.ra.opt) c.aOpt ||| fieldAt (BitVec.ofBool o.rc.opt) c.cOpt ||| rbBits c o.file o.rb,
   fieldAt (o.rc.code c) c.rc ||| fieldAt (o.ra.code c) c.ra]

def qrByte (c : Config.RegCode) (o : QR) : Byte := fieldAt (o.q.code c) c.q ||| rbBits c o.file o.rb

def rdBytes (c : Config.RegCode) (o : RD) : List Byte := [fieldAt (o.t.code c) c.t ||| rbBits c o.file o.rb, o.disp]

def xroBytes (c : Config.RegCode) (o : XRO) : List Byte := [fieldAt o.regA c.regA ||| fieldAt o.regB c.regB, o.off]

def lioBytes (split : Config.LioSplit) (o : LIO) : List Byte :=
  match split with
  | .addressFirst => [o.address, o.pcmd]
  | .commandFirst => [o.pcmd, o.address]

def halfBytes (ab : Half) : List Byte := [ab.extractLsb' 8 8, ab.extractLsb' 0 8]

def wordBytes (w : Word) : List Byte :=
  [w.extractLsb' 24 8, w.extractLsb' 16 8, w.extractLsb' 8 8, w.extractLsb' 0 8]

/-- The bytes after the opcode (R71 to R86), by format. -/
def operandBytes (c : Config.Coding) : Instr → List Byte
  -- I
  | .add | .sub | .and | .or | .j1 | .lc0 | .lc1 | .lc2 | .lc3 | .lc4 | .lc5 | .lc6 | .lc7 | .lc8 | .lc9 | .lc10
  | .lc11 | .sfc | .sfci | .kfc | .retn | .dis | .dup | .exdis | .rx | .jsd | .jsr | .bc | .ladd | .lsub => []
  -- LR
  | .lr0 | .lr1 | .lr2 | .lr3 | .lr4 | .lr5 | .lr6 | .lr7 | .lr8 | .lr9 | .lr10 | .lr11 | .lr12 | .lr13 | .lr14
  | .lr15 | .sr0 | .sr1 | .sr2 | .sr3 | .sr4 | .sr5 | .sr6 | .sr7 | .sr8 | .sr9 | .sr10 | .sr11 | .sr12 | .sr13
  | .sr14 | .sr15 => []
  -- LB
  | .addb a | .subb a | .j2 a | .lib a | .ret a | .as a | .asl a | .als a | .al a | .rb a | .rsb a | .wb a | .wsb a
  | .psb a | .cst a | .jb a | .lip a | .sip a => [a]
  -- XO
  | .lri0 a | .lri1 a | .lri2 a | .lri3 a | .lri4 a | .lri5 a | .lri6 a | .lri7 a | .lri8 a | .lri9 a | .lri10 a
  | .lri11 a | .lri12 a | .lri13 a | .lri14 a | .lri15 a | .sri0 a | .sri1 a | .sri2 a | .sri3 a | .sri4 a | .sri5 a
  | .sri6 a | .sri7 a | .sri8 a | .sri9 a | .sri10 a | .sri11 a | .sri12 a | .sri13 a | .sri14 a | .sri15 a => [a]
  -- LH
  | .adddb ab | .subdb ab | .shl ab | .shr ab | .shdl ab | .shdr ab | .fsdb ab | .j3 ab | .lidb ab | .lfc ab
  | .lgf ab | .jdb ab => halfBytes ab
  -- LW
  | .addqb abgd | .subqb abgd | .j5 abgd | .liqb abgd | .dfc abgd | .jqb abgd => wordBytes abgd
  -- RRR
  | .radd o | .ruadd o | .rvadd o | .rsub o | .rusub o | .rvsub o | .rand o | .ror o | .rxor o | .rfu o | .rrx o
  | .rbc o | .rladd o | .rlsub o => rrrBytes c.regCode o
  -- QR
  | .qadd o | .qsub o | .qand o | .qor o | .qrx o | .qbc o | .qladd o | .qlsub o => [qrByte c.regCode o]
  -- RD
  | .rjlb o | .rjlbj o | .rjleb o | .rjlebj o | .rjeb o | .rjebj o | .rjneb o | .rjnebj o | .rjgeb o | .rjgebj o
  | .rjgb o | .rjgbj o => rdBytes c.regCode o
  -- LBD
  | .jebb a b | .jebbj a b | .jnebb a b | .jnebbj a b => [a, b]
  -- XRO
  | .rri o | .rai o | .wri o | .wai o => xroBytes c.regCode o
  -- LIO
  | .iod o | .ioda o | .ion o => lioBytes c.lioSplit o

/-- The bytes of an instruction under a coding: the byte its mnemonic has, then its operand bytes (R71, R88). -/
def encodeWith (c : Config.Coding) (i : Instr) : List Byte := c.opc i.mnemonic :: operandBytes c i

/-- The encoder at the reference coding. -/
def encode (i : Instr) : List Byte := encodeWith Config.coding i

/-! Words of spec/opcode_table.json -/

/-- The bytes of an opcode-table word of `nbits` bits, laid out as the table numbers them (INDEX.md, "Reading opcode_table.json": a
big-endian byte string, byte 0 most significant), followed by zeros up to the longest instruction, 5 bytes (log 30). -/
def tableBytes (nbits w : Nat) : List Byte :=
  (List.range 5).map fun k => if 8 * (k + 1) ≤ nbits then BitVec.ofNat 8 (w / 2 ^ (nbits - 8 * (k + 1))) else 0

/-- The instruction the decoder reads from an opcode-table word. -/
def decodeTableWord (nbits w : Nat) : Option Instr :=
  match decode (tableBytes nbits w) with
  | .ok (i, _) => some i
  | .error _ => none

end Sys2Proof
end

