-- ==== Sys2Proof/Machine/Fetch.lean ====
section
/-! DEFINITION. Fetching an instruction (spec/00_scope.md R13, spec/20_memory.md R52, R58). -/

namespace Sys2Proof.Machine

/-- FetchByte(ba): cell ba of memory, inside the program image (R52, R58, R40). -/
def State.fetchByte (s : State) (ba : Word) : Except Fault Byte :=
  if s.inText ba then
    match s.mem.get ba.toNat with
    | some b => .ok b
    | none => .error .unwritten
  else .error .memoryNotAdmitted

/-- The `n` bytes from `ba` on, addresses modulo 2^32 (R27). -/
def State.fetchBytes (s : State) (ba : Word) : Nat → Except Fault (List Byte)
  | 0 => .ok []
  | n + 1 =>
    match s.fetchByte ba with
    | .error f => .error f
    | .ok b =>
      match s.fetchBytes (ba + 1) n with
      | .error f => .error f
      | .ok bs => .ok (b :: bs)

/-- The refusal that a decoding error is. -/
def refusalOf : DecodeError → Refusal
  | .unassignedOpcode op => .unassignedOpcode op
  | .reservedRcCode => .reservedRcCode
  | .fieldDescriptor => .fieldDescriptor
  | .tooShort => .tooShort

/-- The instruction at PC: the opcode byte, then as many bytes as it asks for, then the decoder (R13, R70). -/
def State.fetchInstr (s : State) : Host.Outcome Instr Fault Refusal :=
  match s.fetchByte s.pc with
  | .error f => .fault f
  | .ok op =>
    match opLength op with
    | none => .refused (.unassignedOpcode op)
    | some n =>
      match s.fetchBytes s.pc n with
      | .error f => .fault f
      | .ok bs =>
        match decode bs with
        | .error e => .refused (refusalOf e)
        | .ok (i, _) => .next i

end Sys2Proof.Machine
end

