-- ==== Sys2Proof/Machine/Step.lean ====
section
/-! DEFINITION. One step of the machine (spec/00_scope.md R13, R14). -/

namespace Sys2Proof.Machine

/-- One step: fetch at PC and run the instruction; a meaning moves PC and S itself. -/
def step (s : State) : Host.Outcome State Fault Refusal :=
  match s.fetchInstr with
  | .fault f => .fault f
  | .refused r => .refused r
  | .next i => exec i s

/-- `s` with an instruction of spec/opcode_table.json, its word followed by zeros up to 5 bytes, loaded at PC: the bytes are written
to memory and made program text, as the launch of R292 does (log 9, log 30). -/
def State.withFetchWord (s : State) (nbits w : Nat) : State :=
  { s with
    mem := ((tableBytes nbits w).zipIdx).foldl (fun m x => m.put (s.pc + BitVec.ofNat 32 x.2).toNat x.1) s.mem
    text := ⟨s.pc, 5⟩ :: s.text }

end Sys2Proof.Machine
end

