-- ==== Sys2Proof/Safety.lean ====
section
/-! DEFINITION. What the statements about runs are said in: the invariant of the machine, and runs that stop nowhere. -/

namespace Sys2Proof.Machine

/-- The invariant of the machine: memory is in its canonical form and the IFU stack within its capacity (R150). -/
def State.Inv (s : State) : Prop := Memory.wf s.mem ∧ s.ifu.length ≤ Config.ifuStackDepth

/-- A safe run of `n` steps: none of them stops, `t` being where it ends. -/
def SafeRun (n : Nat) (s t : State) : Prop := Sys2Proof.core.run n s = .next t

/-- Whether a memory cell holds a byte of the program image (R52, R63). -/
def State.textCell (s : State) (a : Nat) : Prop := a < 2 ^ 32 ∧ s.inText (BitVec.ofNat 32 a) = true

/-- From `s` to `t` the word at word address `ea` became `v` and every memory cell outside that word reads as before (R54, R195). -/
def WordStored (s t : State) (ea v : Word) : Prop :=
  t.mem.word ea = some v ∧ ∀ c : Nat, c < 4 * ea.toNat ∨ 4 * ea.toNat + 4 ≤ c → t.mem.get c = s.mem.get c

/-- The byte REF_OPC gives an instruction, as a number, by which statements name ranges of the opcode map (R90). -/
def opcodeOf (i : Instr) : Nat := (Config.refOpc i.mnemonic).toNat

end Sys2Proof.Machine
end

