-- ==== Sys2Proof/Certificates/Slice0/Obligations.lean ====
section
/-! DEFINITION. The statements for the provers, from the numbered rules of spec/. A statement that rests on a decision of the spec
(D<n> of spec/92_eei_decisions.md) or of this model (log <n>) says so. -/

open Sys2Proof Sys2Proof.Machine

/-- The state after reset has mode kernel, an empty IFU stack, no written memory cell and no program image: no byte address can be
fetched. Kernel mode and the empty stack are the decision D30 of the spec; that no program is loaded is log 9. No value the
model chose for a register (log 5, 6) is stated. -/
def Obligations.ResetStateAsTheSpecGivesIt : Prop :=
  State.reset.mode = .kernel ∧ State.reset.ifu = [] ∧ (∀ a, State.reset.mem.get a = none) ∧
    ∀ ba, State.reset.inText ba = false ∧ State.reset.fetchByte ba = .error .memoryNotAdmitted

/-- State.reset meets the invariant of the machine: memory in canonical form, IFU stack within IFU_STACK_DEPTH (decision D23). The
canonical form is the model's own representation (log 7). -/
def Obligations.ResetMeetsTheInvariant : Prop :=
  State.reset.Inv

/-- For every state that meets the invariant (memory in its canonical form inside the address space, IFU stack at most
IFU_STACK_DEPTH records), if a step answers a next state, that state meets the invariant: no instruction and no trap entry
pushes past the capacity (decision D23), and no store leaves the canonical form (log 7). -/
def Obligations.StepKeepsTheInvariant : Prop :=
  ∀ s t : State, s.Inv → step s = .next t → t.Inv

/-- From every state, if a step answers a next state, then the program image and MEM_ADMIT are unchanged, every memory cell that
holds program text reads as before, and every byte address fetches as before (decision D29: a store to program text is
refused, so no fetch-after-store hazard can arise). -/
def Obligations.StepKeepsWhatIsFetched : Prop :=
  ∀ s t : State, step s = .next t →
    t.text = s.text ∧ t.admitted = s.admitted ∧ (∀ a, s.textCell a → t.mem.get a = s.mem.get a) ∧
      ∀ ba, t.fetchByte ba = s.fetchByte ba

/-- For every well-formed instruction, all 175 of them with every operand, and whatever bytes follow it, the decoder reads from
its encoding exactly that instruction and leaves the bytes that follow. Opcode numbers and bit positions are the decisions D3
to D8 of the spec (log 1, 2, 3). -/
def Obligations.DecodeOfEncodeIsTheInstruction : Prop :=
  ∀ (i : Instr) (rest : List Byte), wellFormed i = true → decode (encode i ++ rest) = .ok (i, rest)

/-- For every byte sequence, if the decoder reads an instruction from it then that instruction is well formed and the bytes are
its encoding followed by the bytes left over: no two byte sequences decode to one instruction. Opcode numbers and bit
positions are D3 to D8 (log 1, 2, 3). -/
def Obligations.EncodeOfDecodeIsTheBytes : Prop :=
  ∀ (bs rest : List Byte) (i : Instr), decode bs = .ok (i, rest) → wellFormed i = true ∧ bs = encode i ++ rest

/-- An opcode byte has a length exactly when it is not one of the 81 values that REF_OPC gives to no mnemonic: those R90 lists as
unassigned and 88..8F, which its list omits but its count of 81 includes (log 1). The decoder refuses an unassigned byte
whatever follows it; and the length is 1, 2, 3 or 5 (decisions D3 and D31, log 1). -/
def Obligations.UnassignedOpcodesAreRefused : Prop :=
  ∀ op : Byte,
    (opLength op = none ↔
      op.toNat ∈ List.range' 0x00 16 ++ [0x27, 0x2E, 0x2F] ++ List.range' 0x37 9 ++ List.range' 0x4C 4 ++ [0x57, 0x5D] ++
        List.range' 0x88 8 ++ List.range' 0xA6 10 ++ List.range' 0xC5 11 ++ List.range' 0xE3 5 ++ [0xEE, 0xEF] ++ List.range' 0xF5 11) ∧
    (∀ n, opLength op = some n → n = 1 ∨ n = 2 ∨ n = 3 ∨ n = 5) ∧
    (opLength op = none → ∀ rest, decode (op :: rest) = .error (.unassignedOpcode op))

/-- For the fourteen RRR opcodes, operand bytes with cOpt set and Rc field 15 are refused as a reserved Rc code and all others
decode. For SHL, SHR, SHDL and SHDR, a literal with a pad bit set, or width or shift above 32, is refused and all others
decode; FSDB takes every literal. Every other opcode that is assigned, followed by as many bytes as its length asks for,
decodes whatever those bytes are: all values of every other operand field are assigned. Which Rc code is reserved, and the
descriptor layout, are D4, D8 and D39 (log 2, 18). -/
def Obligations.ReservedOperandCodesAreRefused : Prop :=
  (∀ op ∈ ([0x14, 0x16, 0x17, 0x1C, 0x1E, 0x1F, 0x21, 0x24, 0x26, 0x2D, 0x80, 0xE0, 0xEA, 0xED] : List Byte), ∀ (x y : Byte) (r : List Byte),
    if x.getLsbD 6 = true ∧ y.extractLsb' 4 4 = 15 then decode (op :: x :: y :: r) = .error .reservedRcCode
    else ∃ i, decode (op :: x :: y :: r) = .ok (i, r)) ∧
  (∀ op ∈ ([0x28, 0x29, 0x2A, 0x2B] : List Byte), ∀ (a b : Byte) (r : List Byte),
    if (a ++ b : Half).extractLsb' 13 3 = 0 ∧ ((a ++ b : Half).extractLsb' 6 6).toNat ≤ 32 ∧ (b.extractLsb' 0 6).toNat ≤ 32
    then ∃ i, decode (op :: a :: b :: r) = .ok (i, r)
    else decode (op :: a :: b :: r) = .error .fieldDescriptor) ∧
  (∀ (a b : Byte) (r : List Byte), decode (0x2C :: a :: b :: r) = .ok (.fsdb (a ++ b), r)) ∧
  (∀ (op : Byte) (operands r : List Byte), opLength op = some (operands.length + 1) →
    op ∉ ([0x14, 0x16, 0x17, 0x1C, 0x1E, 0x1F, 0x21, 0x24, 0x26, 0x2D, 0x80, 0xE0, 0xEA, 0xED, 0x28, 0x29, 0x2A, 0x2B] : List Byte) →
      ∃ i, decode (op :: operands ++ r) = .ok (i, r))

/-- Bytes 10 FF are ADDB FF; 14 EE DD are RADD with Rc = [S-1], Ra = [S-1], Rb = [S]-; 15 E1 are QADD Q3, C1; 2A 12 08 are SHDL
<1, 8, 8>; 43 is LC3; 50 FF F0 are LFC FFF0; 85 31 10 are RRI 3, 1, 10; D4 11 20 are RJLB [S], X1, 20; F2 10 01 are IOD 10, 01
(under REF_OPC and REGCODE, log 1, 2). -/
def Obligations.SampleWordsDecodeAsTheSpecWritesThem : Prop :=
  decode [0x10, 0xFF] = .ok (.addb 0xFF, []) ∧
  decode [0x14, 0xEE, 0xDD] = .ok (.radd ⟨.locals, .second, .topPop, .second⟩, []) ∧
  decode [0x15, 0xE1] = .ok (.qadd ⟨.const1ToPush, .locals, .const 1⟩, []) ∧
  decode [0x2A, 0x12, 0x08] = .ok (.shdl 0x1208, []) ∧
  decode [0x43] = .ok (.lc3, []) ∧
  decode [0x50, 0xFF, 0xF0] = .ok (.lfc 0xFFF0, []) ∧
  decode [0x85, 0x31, 0x10] = .ok (.rri ⟨3, 1, 0x10⟩, []) ∧
  decode [0xD4, 0x11, 0x20] = .ok (.rjlb ⟨.top, .aux, .reg 1, 0x20⟩, []) ∧
  decode [0xF2, 0x10, 0x01] = .ok (.iod ⟨0x10, 0x01⟩, [])

/-- If the bytes fetched from PC on decode to the instruction i with nothing left over, then step at that state is exec of i at
that state; exec moves PC itself, and nothing is added around it. -/
def Obligations.StepRunsTheDecodedInstruction : Prop :=
  ∀ (s : State) (bs : List Byte) (i : Instr), s.fetchBytes s.pc bs.length = .ok bs → decode bs = .ok (i, []) →
    step s = exec i s

/-- Where PC is outside the program image the step stops with memory not admitted (decision D37); where PC is inside it and the
byte there was never written, with unwritten (D30); where the byte there is an unassigned opcode, with that refusal (D31). -/
def Obligations.StepStopsWhereNothingIsFetched : Prop :=
  ∀ s : State,
    (s.inText s.pc = false → step s = .fault .memoryNotAdmitted) ∧
    (s.inText s.pc = true → s.mem.get s.pc.toNat = none → step s = .fault .unwritten) ∧
    (∀ op, s.inText s.pc = true → s.mem.get s.pc.toNat = some op → opLength op = none →
      step s = .refused (.unassignedOpcode op))

/-- Locals[n] reads Stack[L+n], AuxRegs[n] the auxiliary register, Constants[m] the constant register; [S] and [S]- read Stack[S],
[S-1] and [S-1]- read Stack[S-1]; only the two popping forms change DS, by -1. Q0 reads and writes [S]; Q1 reads [S], Q2
Constants[0], Q3 Constants[1], and these three write Stack[S+1] and add 1 to DS. T0 and T1 read [S], T2 Constants[0], T3
Constants[1]; only T1 changes DS, by -1. That Locals[n] is Stack[L+n] is decision D10, the numbering D4 (log 4, 2). -/
def Obligations.SourceOperandsReadWhatTheirFormsName : Prop :=
  ∀ (s : State) (f : RegFile),
    (∀ n, s.read .locals (.reg n) = s.stackAt (s.fp + n.setWidth 7)) ∧ (∀ n, s.read .aux (.reg n) = s.auxAt n) ∧
    (∀ m, s.read f (.const m) = s.constAt m) ∧
    s.read f .top = s.stackAt s.sp ∧ s.read f .topPop = s.stackAt s.sp ∧
    s.read f .second = s.stackAt (s.sp - 1) ∧ s.read f .secondPop = s.stackAt (s.sp - 1) ∧
    (∀ n, srcDs (.reg n) = 0) ∧ (∀ m, srcDs (.const m) = 0) ∧ srcDs .top = 0 ∧ srcDs .second = 0 ∧
    srcDs .topPop = -1 ∧ srcDs .secondPop = -1 ∧
    (s.readQ (qOf Config.regCode 0) = s.stackAt s.sp ∧ s.qDest (qOf Config.regCode 0) = s.sp ∧ qDs (qOf Config.regCode 0) = 0) ∧
    (s.readQ (qOf Config.regCode 1) = s.stackAt s.sp ∧ s.qDest (qOf Config.regCode 1) = s.sp + 1 ∧ qDs (qOf Config.regCode 1) = 1) ∧
    (s.readQ (qOf Config.regCode 2) = s.constAt 0 ∧ s.qDest (qOf Config.regCode 2) = s.sp + 1 ∧ qDs (qOf Config.regCode 2) = 1) ∧
    (s.readQ (qOf Config.regCode 3) = s.constAt 1 ∧ s.qDest (qOf Config.regCode 3) = s.sp + 1 ∧ qDs (qOf Config.regCode 3) = 1) ∧
    (s.readT (tOf Config.regCode 0) = s.stackAt s.sp ∧ tDs (tOf Config.regCode 0) = 0) ∧ (s.readT (tOf Config.regCode 1) = s.stackAt s.sp ∧ tDs (tOf Config.regCode 1) = -1) ∧
    (s.readT (tOf Config.regCode 2) = s.constAt 0 ∧ tDs (tOf Config.regCode 2) = 0) ∧ (s.readT (tOf Config.regCode 3) = s.constAt 1 ∧ tDs (tOf Config.regCode 3) = 0)

/-- Each form of Rc writes the one register it names and no other cell of Stack, Constants or AuxRegs: Locals[n] writes
Stack[L+n], [S] Stack[S], [S-1] Stack[S-1], [S+1]+ Stack[S+1] of the old S; only [S+1]+ changes DS, by 1. A write touches
nothing else. That Locals[n] is Stack[L+n] is decision D10 (log 4). -/
def Obligations.DestinationOperandsWriteOneCell : Prop :=
  ∀ (s : State) (f : RegFile) (d : Dst) (v : Word),
    (∀ j, (s.write f d v).stackAt j =
      if (∃ n, d = .reg n ∧ f = .locals ∧ j = s.fp + n.setWidth 7) ∨ (d = .top ∧ j = s.sp) ∨ (d = .second ∧ j = s.sp - 1) ∨
        (d = .push ∧ j = s.sp + 1) then v else s.stackAt j) ∧
    (∀ j, (s.write f d v).auxAt j = if d = .reg j ∧ f = .aux then v else s.auxAt j) ∧
    (∀ j, (s.write f d v).constAt j = if d = .const j then v else s.constAt j) ∧
    s.write f d v = { s with stack := (s.write f d v).stack, aux := (s.write f d v).aux, consts := (s.write f d v).consts } ∧
    dstDs d = if d = .push then 1 else 0

/-- Where the exact sum s([S]) + literal + Carry (difference s([S]) - literal - Carry) is in the signed 32-bit range, the
instruction completes: [S] holds it, Carry is 0, PC moves by the length, everything else is unchanged. Byte and double-byte
literals are unsigned, the word literal signed. That overflow is signed overflow is decision D41 (log 20). -/
def Obligations.LiteralAddsAndSubtractsInRange : Prop :=
  (∀ (a : Byte) (s : State),
    let t : Int := s.top.toInt + a.toNat + s.carry.toNat;
    -2 ^ 31 ≤ t → t ≤ 2 ^ 31 - 1 →
      exec (.addb a) s = .next { s.setStack s.sp (BitVec.ofInt 32 t) with carry := false, pc := s.pc + 2 }) ∧
  (∀ (ab : Half) (s : State),
    let t : Int := s.top.toInt + ab.toNat + s.carry.toNat;
    -2 ^ 31 ≤ t → t ≤ 2 ^ 31 - 1 →
      exec (.adddb ab) s = .next { s.setStack s.sp (BitVec.ofInt 32 t) with carry := false, pc := s.pc + 3 }) ∧
  (∀ (w : Word) (s : State),
    let t : Int := s.top.toInt + w.toInt + s.carry.toNat;
    -2 ^ 31 ≤ t → t ≤ 2 ^ 31 - 1 →
      exec (.addqb w) s = .next { s.setStack s.sp (BitVec.ofInt 32 t) with carry := false, pc := s.pc + 5 }) ∧
  (∀ (a : Byte) (s : State),
    let t : Int := s.top.toInt - a.toNat - s.carry.toNat;
    -2 ^ 31 ≤ t → t ≤ 2 ^ 31 - 1 →
      exec (.subb a) s = .next { s.setStack s.sp (BitVec.ofInt 32 t) with carry := false, pc := s.pc + 2 }) ∧
  (∀ (ab : Half) (s : State),
    let t : Int := s.top.toInt - ab.toNat - s.carry.toNat;
    -2 ^ 31 ≤ t → t ≤ 2 ^ 31 - 1 →
      exec (.subdb ab) s = .next { s.setStack s.sp (BitVec.ofInt 32 t) with carry := false, pc := s.pc + 3 }) ∧
  (∀ (w : Word) (s : State),
    let t : Int := s.top.toInt - w.toInt - s.carry.toNat;
    -2 ^ 31 ≤ t → t ≤ 2 ^ 31 - 1 →
      exec (.subqb w) s = .next { s.setStack s.sp (BitVec.ofInt 32 t) with carry := false, pc := s.pc + 5 })

/-- Where the exact sum x + y + Carry (difference x - y - Carry) of the two operands as signed words is in range, the instruction
completes: the destination holds it, Carry is 0, S moves by DS, PC by the length, everything else is unchanged. SUB is
next-to-top minus top. Overflow is signed overflow by decision D41 (log 20). -/
def Obligations.RegisterAddsAndSubtractsInRange : Prop :=
  (∀ s : State,
    let t : Int := s.second.toInt + s.top.toInt + s.carry.toNat;
    -2 ^ 31 ≤ t → t ≤ 2 ^ 31 - 1 → exec .add s =
      .next { s.setStack (s.sp - 1) (BitVec.ofInt 32 t) with carry := false, sp := s.sp - 1, pc := s.pc + 1 }) ∧
  (∀ s : State,
    let t : Int := s.second.toInt - s.top.toInt - s.carry.toNat;
    -2 ^ 31 ≤ t → t ≤ 2 ^ 31 - 1 → exec .sub s =
      .next { s.setStack (s.sp - 1) (BitVec.ofInt 32 t) with carry := false, sp := s.sp - 1, pc := s.pc + 1 }) ∧
  (∀ (o : RRR) (s : State),
    let t : Int := (s.read o.file o.ra).toInt + (s.read o.file o.rb).toInt + s.carry.toNat;
    -2 ^ 31 ≤ t → t ≤ 2 ^ 31 - 1 → exec (.radd o) s =
      .next { s.write o.file o.rc (BitVec.ofInt 32 t) with
        carry := false, sp := s.sp + (srcDs o.ra + srcDs o.rb + dstDs o.rc), pc := s.pc + 3 }) ∧
  (∀ (o : RRR) (s : State),
    let t : Int := (s.read o.file o.ra).toInt - (s.read o.file o.rb).toInt - s.carry.toNat;
    -2 ^ 31 ≤ t → t ≤ 2 ^ 31 - 1 → exec (.rsub o) s =
      .next { s.write o.file o.rc (BitVec.ofInt 32 t) with
        carry := false, sp := s.sp + (srcDs o.ra + srcDs o.rb + dstDs o.rc), pc := s.pc + 3 }) ∧
  (∀ (o : QR) (s : State),
    let t : Int := (s.readQ o.q).toInt + (s.read o.file o.rb).toInt + s.carry.toNat;
    -2 ^ 31 ≤ t → t ≤ 2 ^ 31 - 1 → exec (.qadd o) s =
      .next { s.setStack (s.qDest o.q) (BitVec.ofInt 32 t) with
        carry := false, sp := s.sp + (qDs o.q + srcDs o.rb), pc := s.pc + 2 }) ∧
  (∀ (o : QR) (s : State),
    let t : Int := (s.readQ o.q).toInt - (s.read o.file o.rb).toInt - s.carry.toNat;
    -2 ^ 31 ≤ t → t ≤ 2 ^ 31 - 1 → exec (.qsub o) s =
      .next { s.setStack (s.qDest o.q) (BitVec.ofInt 32 t) with
        carry := false, sp := s.sp + (qDs o.q + srcDs o.rb), pc := s.pc + 2 })

/-- Where the exact result is below -2^31 or above 2^31 - 1, each of ADDB ADDDB ADDQB ADD RADD QADD SUBB SUBDB SUBQB SUB RSUB QSUB
enters the Overflow trap from the pre-state, nothing of it written; on a full IFU stack the machine stops. Signed overflow,
precision and trap entry are decisions D41, D18 and D19 (log 20, 11). -/
def Obligations.CheckedArithmeticTrapsOnOverflow : Prop :=
  (∀ (a : Byte) (s : State), let t : Int := s.top.toInt + a.toNat + s.carry.toNat
    t < -2 ^ 31 ∨ 2 ^ 31 - 1 < t → exec (.addb a) s =
      if s.ifu.length < Config.ifuStackDepth then .next (s.trapEntry .overflow) else .fault .ifuOverflow) ∧
  (∀ (ab : Half) (s : State), let t : Int := s.top.toInt + ab.toNat + s.carry.toNat
    t < -2 ^ 31 ∨ 2 ^ 31 - 1 < t → exec (.adddb ab) s =
      if s.ifu.length < Config.ifuStackDepth then .next (s.trapEntry .overflow) else .fault .ifuOverflow) ∧
  (∀ (w : Word) (s : State), let t : Int := s.top.toInt + w.toInt + s.carry.toNat
    t < -2 ^ 31 ∨ 2 ^ 31 - 1 < t → exec (.addqb w) s =
      if s.ifu.length < Config.ifuStackDepth then .next (s.trapEntry .overflow) else .fault .ifuOverflow) ∧
  (∀ (s : State), let t : Int := s.second.toInt + s.top.toInt + s.carry.toNat
    t < -2 ^ 31 ∨ 2 ^ 31 - 1 < t → exec .add s =
      if s.ifu.length < Config.ifuStackDepth then .next (s.trapEntry .overflow) else .fault .ifuOverflow) ∧
  (∀ (o : RRR) (s : State), let t : Int := (s.read o.file o.ra).toInt + (s.read o.file o.rb).toInt + s.carry.toNat
    t < -2 ^ 31 ∨ 2 ^ 31 - 1 < t → exec (.radd o) s =
      if s.ifu.length < Config.ifuStackDepth then .next (s.trapEntry .overflow) else .fault .ifuOverflow) ∧
  (∀ (o : QR) (s : State), let t : Int := (s.readQ o.q).toInt + (s.read o.file o.rb).toInt + s.carry.toNat
    t < -2 ^ 31 ∨ 2 ^ 31 - 1 < t → exec (.qadd o) s =
      if s.ifu.length < Config.ifuStackDepth then .next (s.trapEntry .overflow) else .fault .ifuOverflow) ∧
  (∀ (a : Byte) (s : State), let t : Int := s.top.toInt - a.toNat - s.carry.toNat
    t < -2 ^ 31 ∨ 2 ^ 31 - 1 < t → exec (.subb a) s =
      if s.ifu.length < Config.ifuStackDepth then .next (s.trapEntry .overflow) else .fault .ifuOverflow) ∧
  (∀ (ab : Half) (s : State), let t : Int := s.top.toInt - ab.toNat - s.carry.toNat
    t < -2 ^ 31 ∨ 2 ^ 31 - 1 < t → exec (.subdb ab) s =
      if s.ifu.length < Config.ifuStackDepth then .next (s.trapEntry .overflow) else .fault .ifuOverflow) ∧
  (∀ (w : Word) (s : State), let t : Int := s.top.toInt - w.toInt - s.carry.toNat
    t < -2 ^ 31 ∨ 2 ^ 31 - 1 < t → exec (.subqb w) s =
      if s.ifu.length < Config.ifuStackDepth then .next (s.trapEntry .overflow) else .fault .ifuOverflow) ∧
  (∀ (s : State), let t : Int := s.second.toInt - s.top.toInt - s.carry.toNat
    t < -2 ^ 31 ∨ 2 ^ 31 - 1 < t → exec .sub s =
      if s.ifu.length < Config.ifuStackDepth then .next (s.trapEntry .overflow) else .fault .ifuOverflow) ∧
  (∀ (o : RRR) (s : State), let t : Int := (s.read o.file o.ra).toInt - (s.read o.file o.rb).toInt - s.carry.toNat
    t < -2 ^ 31 ∨ 2 ^ 31 - 1 < t → exec (.rsub o) s =
      if s.ifu.length < Config.ifuStackDepth then .next (s.trapEntry .overflow) else .fault .ifuOverflow) ∧
  (∀ (o : QR) (s : State), let t : Int := (s.readQ o.q).toInt - (s.read o.file o.rb).toInt - s.carry.toNat
    t < -2 ^ 31 ∨ 2 ^ 31 - 1 < t → exec (.qsub o) s =
      if s.ifu.length < Config.ifuStackDepth then .next (s.trapEntry .overflow) else .fault .ifuOverflow)

/-- RUADD writes Ra + Rb + Carry modulo 2^32 and sets Carry iff the unsigned sum reaches 2^32; RUSUB writes Ra - Rb - Carry modulo
2^32 and sets Carry iff u(Ra) < u(Rb) + Carry. Both always complete, and change nothing besides the destination, Carry, S by
DS and PC by 3. The polarity of Carry is decision D2 (log 20). -/
def Obligations.UnsignedAddAndSubtractCarry : Prop :=
  (∀ (o : RRR) (s : State),
    let x := s.read o.file o.ra
    let y := s.read o.file o.rb
    exec (.ruadd o) s = .next { s.write o.file o.rc (x + y + BitVec.ofNat 32 s.carry.toNat) with
      carry := decide (2 ^ 32 ≤ x.toNat + y.toNat + s.carry.toNat),
      sp := s.sp + (srcDs o.ra + srcDs o.rb + dstDs o.rc), pc := s.pc + 3 }) ∧
  (∀ (o : RRR) (s : State),
    let x := s.read o.file o.ra
    let y := s.read o.file o.rb
    exec (.rusub o) s = .next { s.write o.file o.rc (x - y - BitVec.ofNat 32 s.carry.toNat) with
      carry := decide (x.toNat < y.toNat + s.carry.toNat),
      sp := s.sp + (srcDs o.ra + srcDs o.rb + dstDs o.rc), pc := s.pc + 3 })

/-- For every operand and carry-in, after RUSUB Carry is NOT of the bit 32 of the adder's sum u(x) + u(NOT y) + (1 - c), and the
word written is that sum's low 32 bits (the reading of decision D2, log 20). -/
def Obligations.BorrowIsTheComplementOfTheAddersCarryOut : Prop :=
  ∀ (o : RRR) (s t : State), exec (.rusub o) s = .next t →
    let x := s.read o.file o.ra
    let y := s.read o.file o.rb
    let sum : Nat := x.toNat + (~~~y).toNat + (1 - s.carry.toNat)
    t.carry = !(sum.testBit 32) ∧ t = { s.finishRRR o (BitVec.ofNat 32 sum) with carry := t.carry }

/-- With Carry = 0, for all register numbers of Locals and likewise of AuxRegs such that the low destination is no source of the
high instruction and is not the high destination: two RUADDs, low words first, complete and leave the sum of the two 64-bit
numbers modulo 2^64 in the destination pair, Carry being set iff the sum reaches 2^64; two RUSUBs complete and leave the
difference, Carry being set iff the first number is below the second (R119; the polarity of Carry is decision D2, log 20; that
Locals are cells of Stack is D10, log 4). -/
def Obligations.TwoWordAddAndSubtractThroughCarry : Prop :=
  ∀ (s : State) (f : RegFile) (a₀ a₁ b₀ b₁ d₀ d₁ : BitVec 4), s.carry = false → d₀ ≠ a₁ → d₀ ≠ b₁ → d₀ ≠ d₁ →
    let lo : RRR := ⟨f, .reg a₀, .reg b₀, .reg d₀⟩
    let hi : RRR := ⟨f, .reg a₁, .reg b₁, .reg d₁⟩
    let a : BitVec 64 := s.regAt f a₁ ++ s.regAt f a₀
    let b : BitVec 64 := s.regAt f b₁ ++ s.regAt f b₀
    (∃ t u, exec (.ruadd lo) s = .next t ∧ exec (.ruadd hi) t = .next u ∧
      (u.regAt f d₁ ++ u.regAt f d₀ : BitVec 64) = a + b ∧ u.carry = decide (2 ^ 64 ≤ a.toNat + b.toNat)) ∧
    (∃ t u, exec (.rusub lo) s = .next t ∧ exec (.rusub hi) t = .next u ∧
      (u.regAt f d₁ ++ u.regAt f d₀ : BitVec 64) = a - b ∧ u.carry = decide (a.toNat < b.toNat))

/-- With Carry = 0 and room on the IFU stack, ADD enters the Overflow trap exactly when both operands have the same sign and the
wrapped sum the other; SUB exactly when the operands differ in sign and the wrapped difference has the sign of the subtrahend
(R119; that overflow is signed overflow is decision D41, log 20; that the trap is taken, its entry state being the next state,
is R264, decision D19, log 11). -/
def Obligations.AddOverflowIsASignChange : Prop :=
  ∀ s : State, s.carry = false → s.ifu.length < Config.ifuStackDepth →
    (exec .add s = .next (s.trapEntry .overflow) ↔
      s.second.msb = s.top.msb ∧ (s.second + s.top).msb ≠ s.top.msb) ∧
    (exec .sub s = .next (s.trapEntry .overflow) ↔
      s.second.msb ≠ s.top.msb ∧ (s.second - s.top).msb = s.top.msb)

/-- RVADD writes Ra + Rb and RVSUB Ra - Rb, modulo 2^32, to Rc; S moves by the DS of the operands, PC by 3, and nothing else
changes, Carry included. Both always complete. -/
def Obligations.PlainAddAndSubtractWrap : Prop :=
  (∀ (o : RRR) (s : State), exec (.rvadd o) s =
    .next { s.write o.file o.rc (s.read o.file o.ra + s.read o.file o.rb) with
      sp := s.sp + (srcDs o.ra + srcDs o.rb + dstDs o.rc), pc := s.pc + 3 }) ∧
  (∀ (o : RRR) (s : State), exec (.rvsub o) s =
    .next { s.write o.file o.rc (s.read o.file o.ra - s.read o.file o.rb) with
      sp := s.sp + (srcDs o.ra + srcDs o.rb + dstDs o.rc), pc := s.pc + 3 })

/-- AND and OR write the bitwise result of [S-1] and [S] to [S-1] and lower S by one; the register and quick-register forms of
AND, OR and XOR write that of their operands to their destination; S moves by DS, PC by the length, and nothing else changes.
All complete always. -/
def Obligations.BitwiseOperationsWriteTheirResult : Prop :=
  (∀ s : State, exec .and s =
    .next { s.setStack (s.sp - 1) (s.second &&& s.top) with sp := s.sp - 1, pc := s.pc + 1 }) ∧
  (∀ s : State, exec .or s =
    .next { s.setStack (s.sp - 1) (s.second ||| s.top) with sp := s.sp - 1, pc := s.pc + 1 }) ∧
  (∀ (o : RRR) (s : State), exec (.rand o) s =
    .next { s.write o.file o.rc (s.read o.file o.ra &&& s.read o.file o.rb) with
      sp := s.sp + (srcDs o.ra + srcDs o.rb + dstDs o.rc), pc := s.pc + 3 }) ∧
  (∀ (o : RRR) (s : State), exec (.ror o) s =
    .next { s.write o.file o.rc (s.read o.file o.ra ||| s.read o.file o.rb) with
      sp := s.sp + (srcDs o.ra + srcDs o.rb + dstDs o.rc), pc := s.pc + 3 }) ∧
  (∀ (o : RRR) (s : State), exec (.rxor o) s =
    .next { s.write o.file o.rc (s.read o.file o.ra ^^^ s.read o.file o.rb) with
      sp := s.sp + (srcDs o.ra + srcDs o.rb + dstDs o.rc), pc := s.pc + 3 }) ∧
  (∀ (o : QR) (s : State), exec (.qand o) s =
    .next { s.setStack (s.qDest o.q) (s.readQ o.q &&& s.read o.file o.rb) with
      sp := s.sp + (qDs o.q + srcDs o.rb), pc := s.pc + 2 }) ∧
  (∀ (o : QR) (s : State), exec (.qor o) s =
    .next { s.setStack (s.qDest o.q) (s.readQ o.q ||| s.read o.file o.rb) with
      sp := s.sp + (qDs o.q + srcDs o.rb), pc := s.pc + 2 })

/-- For a literal descriptor in range, SHL writes Operate([S], 0), SHR Operate([S], [S]) to [S]; SHDL writes Operate([S-1], [S]),
SHDR Operate([S], [S-1]) to [S-1] and pops one; PC moves by 3, nothing else changes. For a literal out of range each is
refused. Operate is FU_OPERATE at its reference value, the layout D8 (log 18). -/
def Obligations.FieldUnitInstructionsApplyOperate : Prop :=
  ∀ (ab : Half) (s : State),
    (∀ fd, fieldDesc ab = some fd →
      exec (.shl ab) s = .next { s.setStack s.sp (Config.fuOperate s.top 0 fd) with pc := s.pc + 3 } ∧
      exec (.shr ab) s = .next { s.setStack s.sp (Config.fuOperate s.top s.top fd) with pc := s.pc + 3 } ∧
      exec (.shdl ab) s = .next { s.setStack (s.sp - 1) (Config.fuOperate s.second s.top fd) with sp := s.sp - 1, pc := s.pc + 3 } ∧
      exec (.shdr ab) s = .next { s.setStack (s.sp - 1) (Config.fuOperate s.top s.second fd) with sp := s.sp - 1, pc := s.pc + 3 }) ∧
    (wellFormed (.shl ab) = false →
      exec (.shl ab) s = .refused .fieldDescriptor ∧ exec (.shr ab) s = .refused .fieldDescriptor ∧
      exec (.shdl ab) s = .refused .fieldDescriptor ∧ exec (.shdr ab) s = .refused .fieldDescriptor)

/-- A double byte holds a descriptor exactly when it is 4096 * insert + 64 * width + shift with insert 0 or 1 and width and shift
at most 32, and the fields are those numbers (layout: decision D8, log 18). -/
def Obligations.DescriptorFieldsAndTheirRange : Prop :=
  ∀ (ab : Half) (fd : FieldDesc), fieldDesc ab = some fd ↔
    fd.width ≤ 32 ∧ fd.shift ≤ 32 ∧ ab.toNat = 4096 * fd.insert.toNat + 64 * fd.width + fd.shift

/-- FSDB sets Field to [S] + ab modulo 2^32, pops one, moves PC by 3 and changes nothing else. RFU, where Field is below 2^13 and
its low half is a descriptor, writes Operate(Ra, Rb) to Rc, and where Field is not so it is refused. 32 bits of Field and the
refusals are decisions D34 and D39 (log 18). -/
def Obligations.FieldRegisterInstructions : Prop :=
  (∀ (ab : Half) (s : State), exec (.fsdb ab) s =
    .next { s with field := s.top + ab.setWidth 32, sp := s.sp - 1, pc := s.pc + 3 }) ∧
  (∀ (o : RRR) (s : State) (fd : FieldDesc), s.field.toNat < 2 ^ 13 → fieldDesc (s.field.setWidth 16) = some fd →
    exec (.rfu o) s = .next { s.write o.file o.rc (Config.fuOperate (s.read o.file o.ra) (s.read o.file o.rb) fd) with
      sp := s.sp + (srcDs o.ra + srcDs o.rb + dstDs o.rc), pc := s.pc + 3 }) ∧
  (∀ (o : RRR) (s : State), 2 ^ 13 ≤ s.field.toNat ∨ fieldDesc (s.field.setWidth 16) = none →
    exec (.rfu o) s = .refused .fieldDescriptor)

/-- Under FU_OPERATE, for every word and k up to 32: SHL <0, 32, k> shifts left by k; SHR <0, 32-k, 32-k> shifts right by k with
zeros; SHR <0, 32, k> rotates left by k; SHDL <0, 32, k> is the high word of the 64-bit left shift. FU_OPERATE is the
reference function of decision D9 (log 18). -/
def Obligations.OperateShiftsAndRotates : Prop :=
  ∀ (x y : Word) (k : Nat), k ≤ 32 →
    Config.fuOperate x 0 ⟨false, 32, k⟩ = x <<< k ∧
    Config.fuOperate x x ⟨false, 32 - k, 32 - k⟩ = x >>> k ∧
    Config.fuOperate x x ⟨false, 32, k⟩ = x.rotateLeft k ∧
    (Config.fuOperate x y ⟨false, 32, k⟩).toNat = (x.toNat * 2 ^ 32 + y.toNat) * 2 ^ k / 2 ^ 32 % 2 ^ 32

/-- Under FU_OPERATE: SHR <0, w, 32-p> of x (shift 0 for p = 0) gives the w bits of x from bit p up, right-justified, for p + w at
most 32; the insert form <1, w, p> replaces bits p to p+w-1 of right by the low w bits of left and keeps the others.
FU_OPERATE is the reference function of decision D9 (log 18). -/
def Obligations.OperateExtractsAndInsertsFields : Prop :=
  ∀ (x y : Word) (w p i : Nat), p + w ≤ 32 → p < 32 → i < 32 →
    (Config.fuOperate x x ⟨false, w, (32 - p) % 32⟩).getLsbD i = (decide (i < w) && x.getLsbD (p + i)) ∧
    (Config.fuOperate x y ⟨true, w, p⟩).getLsbD i = if p ≤ i ∧ i < p + w then x.getLsbD (i - p) else y.getLsbD i

/-- J1 moves PC by 1, J2 by 2, J3 by 3 and J5 by 5, modulo 2^32, and nothing else changes; the literal bytes have no effect. All
complete always. That PC wraps modulo 2^32 is decision D36 (log 29). -/
def Obligations.NoOpsOnlyAdvancePc : Prop :=
  (∀ s : State, exec .j1 s = .next { s with pc := s.pc + 1 }) ∧
  (∀ (a : Byte) (s : State), exec (.j2 a) s = .next { s with pc := s.pc + 2 }) ∧
  (∀ (ab : Half) (s : State), exec (.j3 ab) s = .next { s with pc := s.pc + 3 }) ∧
  (∀ (w : Word) (s : State), exec (.j5 w) s = .next { s with pc := s.pc + 5 })

/-- LIB, LIDB and LIQB write the zero-extended literal to Stack[S+1], raise S by one, move PC by 2, 3 and 5, and change nothing
else. All complete always. -/
def Obligations.LiteralsArePushed : Prop :=
  (∀ (a : Byte) (s : State), exec (.lib a) s =
    .next { s.setStack (s.sp + 1) (a.setWidth 32) with sp := s.sp + 1, pc := s.pc + 2 }) ∧
  (∀ (ab : Half) (s : State), exec (.lidb ab) s =
    .next { s.setStack (s.sp + 1) (ab.setWidth 32) with sp := s.sp + 1, pc := s.pc + 3 }) ∧
  (∀ (w : Word) (s : State), exec (.liqb w) s =
    .next { s.setStack (s.sp + 1) w with sp := s.sp + 1, pc := s.pc + 5 })

/-- LCm writes Constants[m], whatever it holds, to Stack[S+1], raises S by one, moves PC by 1 and changes nothing else; it always
completes (a constant register that nothing has written holds the value of log 5, where R40 would refuse). -/
def Obligations.ConstantsArePushed : Prop :=
  ∀ p ∈ ([(.lc0, 0), (.lc1, 1), (.lc2, 2), (.lc3, 3), (.lc4, 4), (.lc5, 5), (.lc6, 6), (.lc7, 7), (.lc8, 8), (.lc9, 9), (.lc10, 10), (.lc11, 11)] : List (Instr × Fin 12)), ∀ s : State,
    exec p.1 s = .next { s.setStack (s.sp + 1) (s.constAt p.2) with sp := s.sp + 1, pc := s.pc + 1 }

/-- With room on the IFU stack: LFC, DFC and SFC push [PC + length, L, mode, trapsEnabled, version] and go to PC + sext(ab), abgd
and [S] (popped); KFC pushes the same with PC + 1, sets mode to kernel and goes to INST_TRAP(KFC). Nothing else changes. On a
full IFU stack each stops. The PC saved and the stop are decisions D14 and D23 (log 13, 23). -/
def Obligations.CallsPushTheReturnRecord : Prop :=
  ∀ s : State,
    (s.ifu.length < Config.ifuStackDepth →
      (∀ ab, exec (.lfc ab) s = .next { s with ifu := ⟨s.pc + 3, s.fp, s.mode, s.trapsEnabled, s.version⟩ :: s.ifu, pc := s.pc + ab.signExtend 32 }) ∧
      (∀ w, exec (.dfc w) s = .next { s with ifu := ⟨s.pc + 5, s.fp, s.mode, s.trapsEnabled, s.version⟩ :: s.ifu, pc := w }) ∧
      exec .sfc s = .next { s with ifu := ⟨s.pc + 1, s.fp, s.mode, s.trapsEnabled, s.version⟩ :: s.ifu, pc := s.top, sp := s.sp - 1 } ∧
      exec .kfc s = .next { s with
        ifu := ⟨s.pc + 1, s.fp, s.mode, s.trapsEnabled, s.version⟩ :: s.ifu, mode := .kernel, pc := Config.instTrap .kfc }) ∧
    (Config.ifuStackDepth ≤ s.ifu.length →
      (∀ ab, exec (.lfc ab) s = .fault .ifuOverflow) ∧ (∀ w, exec (.dfc w) s = .fault .ifuOverflow) ∧
      exec .sfc s = .fault .ifuOverflow ∧ exec .kfc s = .fault .ifuOverflow)

/-- Where [S] addresses an admitted, written word w and the IFU stack has room, SFCI pushes [PC + 1, L, mode, trapsEnabled,
version], sets PC to w and changes nothing else. Where the word is not admitted, or unwritten, or the IFU stack is full, it
stops with nothing pushed. The reading of "(S)^" is decision D32 (log 24); the stops are D37 (log 8), R40 with D30 (log 7: a
word is unwritten where any of its bytes is) and D23 (log 13). -/
def Obligations.IndirectCallReadsItsTargetFromMemory : Prop :=
  ∀ s : State,
    (∀ w, s.admits s.top = true → s.mem.word s.top = some w → s.ifu.length < Config.ifuStackDepth →
      exec .sfci s = .next { s with ifu := ⟨s.pc + 1, s.fp, s.mode, s.trapsEnabled, s.version⟩ :: s.ifu, pc := w }) ∧
    (s.admits s.top = false → exec .sfci s = .fault .memoryNotAdmitted) ∧
    (s.admits s.top = true → s.mem.word s.top = none → exec .sfci s = .fault .unwritten) ∧
    (∀ w, s.admits s.top = true → s.mem.word s.top = some w → Config.ifuStackDepth ≤ s.ifu.length →
      exec .sfci s = .fault .ifuOverflow)

/-- With a record on the IFU stack, RETN removes it and assigns its five fields, changing nothing else, S included; RET a does the
same and sets S to the old L plus a modulo 128. On an empty IFU stack both stop (decision D23, log 13). -/
def Obligations.ReturnsRestoreTheNewestRecord : Prop :=
  ∀ s : State,
    (∀ r rest, s.ifu = r :: rest →
      exec .retn s = .next { s with
        ifu := rest, pc := r.pc, fp := r.fp, mode := r.mode, trapsEnabled := r.trapsEnabled, version := r.version } ∧
      ∀ a : Byte, exec (.ret a) s = .next { s with
        sp := s.fp + a.setWidth 7, ifu := rest, pc := r.pc, fp := r.fp, mode := r.mode, trapsEnabled := r.trapsEnabled,
        version := r.version }) ∧
    (s.ifu = [] → exec .retn s = .fault .ifuUnderflow ∧ ∀ a, exec (.ret a) s = .fault .ifuUnderflow)

/-- If one of LFC, DFC, SFC, SFCI, KFC answers a next state t, then from any state u that has t's IFU stack, RETN answers the
state that differs from u only in resuming: PC at the byte after the call, and the caller's L, mode, trapsEnabled, version and
IFU stack (the saved PC is decision D14, log 23). -/
def Obligations.CallThenReturnResumesAfterTheCall : Prop :=
  ∀ (i : Instr) (s t u : State), 0x50 ≤ opcodeOf i → opcodeOf i ≤ 0x54 → exec i s = .next t → u.ifu = t.ifu →
    exec .retn u = .next { u with
      pc := s.pc + BitVec.ofNat 32 (encode i).length, fp := s.fp, mode := s.mode, trapsEnabled := s.trapsEnabled,
      version := s.version, ifu := s.ifu }

/-- DIS lowers S by one and leaves every cell as it was; DUP writes [S] to Stack[S+1] and raises S by one; EXDIS writes [S] to
Stack[S-1] and lowers S by one; PC moves by 1 and nothing else changes. All complete always. -/
def Obligations.TopOfStackCopiesAndDiscard : Prop :=
  ∀ s : State,
    exec .dis s = .next { s with sp := s.sp - 1, pc := s.pc + 1 } ∧
    exec .dup s = .next { s.setStack (s.sp + 1) s.top with sp := s.sp + 1, pc := s.pc + 1 } ∧
    exec .exdis s = .next { s.setStack (s.sp - 1) s.top with sp := s.sp - 1, pc := s.pc + 1 }

/-- AS sets S to S + a, ASL S to L + a, ALS L to S + a, AL L to L + a, modulo 128; PC moves by 2 and nothing else changes; and the
byte counts the same read as signed or unsigned. All complete always. STACK_SIZE = 128 is decision D10, wrapping D11 (log 4). -/
def Obligations.FramePointerArithmetic : Prop :=
  ∀ (a : Byte) (s : State),
    exec (.as a) s = .next { s with sp := s.sp + a.setWidth 7, pc := s.pc + 2 } ∧
    exec (.asl a) s = .next { s with sp := s.fp + a.setWidth 7, pc := s.pc + 2 } ∧
    exec (.als a) s = .next { s with fp := s.sp + a.setWidth 7, pc := s.pc + 2 } ∧
    exec (.al a) s = .next { s with fp := s.fp + a.setWidth 7, pc := s.pc + 2 } ∧
    ∀ x : StackIx, ((x + a.setWidth 7).toNat : Int) = (x.toNat + a.toNat) % 128 ∧
      ((x + a.setWidth 7).toNat : Int) = (x.toNat + a.toInt) % 128

/-- LRn writes Stack[L+n] to Stack[S+1] and raises S by one; SRn writes [S] to Stack[L+n] and lowers S by one; PC moves by 1 and
nothing else changes, also where the cells coincide. All complete always. That Locals[n] is Stack[L+n] is decision D10 (log
4). -/
def Obligations.LocalRegisterCopies : Prop :=
  ∀ p ∈ ([(.lr0, .sr0, 0), (.lr1, .sr1, 1), (.lr2, .sr2, 2), (.lr3, .sr3, 3), (.lr4, .sr4, 4), (.lr5, .sr5, 5), (.lr6, .sr6, 6), (.lr7, .sr7, 7), (.lr8, .sr8, 8), (.lr9, .sr9, 9), (.lr10, .sr10, 10), (.lr11, .sr11, 11), (.lr12, .sr12, 12), (.lr13, .sr13, 13), (.lr14, .sr14, 14), (.lr15, .sr15, 15)] :
      List (Instr × Instr × BitVec 4)), ∀ s : State,
    exec p.1 s =
      .next { s.setStack (s.sp + 1) (s.stackAt (s.fp + p.2.2.setWidth 7)) with sp := s.sp + 1, pc := s.pc + 1 } ∧
    exec p.2.1 s = .next { s.setStack (s.fp + p.2.2.setWidth 7) s.top with sp := s.sp - 1, pc := s.pc + 1 }

/-- Where the effective address, a sum modulo 2^32, is admitted and holds a written word, each load completes: the word goes to
the destination, S moves by DS, PC by the length, and nothing else changes, memory included. LRIn reads Locals[n] + a and
pushes. That data addresses are word addresses is decision D13, that Locals[n] is Stack[L+n] D10 (log 3, 4). -/
def Obligations.LoadsReadOneWord : Prop :=
  (∀ (o : RRR) (s : State) (w : Word), s.admits (s.read o.file o.ra + s.read o.file o.rb) = true → s.mem.word (s.read o.file o.ra + s.read o.file o.rb) = some w →
    exec (.rrx o) s = .next { s.write o.file o.rc w with
      sp := s.sp + (srcDs o.ra + srcDs o.rb + dstDs o.rc), pc := s.pc + 3 }) ∧
  (∀ (o : QR) (s : State) (w : Word), s.admits (s.readQ o.q + s.read o.file o.rb) = true → s.mem.word (s.readQ o.q + s.read o.file o.rb) = some w →
    exec (.qrx o) s = .next { s.setStack (s.qDest o.q) w with
      sp := s.sp + (qDs o.q + srcDs o.rb), pc := s.pc + 2 }) ∧
  (∀ (a : Byte) (s : State) (w : Word), s.admits (s.top + a.setWidth 32) = true → s.mem.word (s.top + a.setWidth 32) = some w →
    exec (.rb a) s = .next { s.setStack s.sp w with pc := s.pc + 2 }) ∧
  (∀ (a : Byte) (s : State) (w : Word), s.admits (s.top + a.setWidth 32) = true → s.mem.word (s.top + a.setWidth 32) = some w →
    exec (.rsb a) s = .next { s.setStack (s.sp + 1) w with sp := s.sp + 1, pc := s.pc + 2 }) ∧
  (∀ (s : State) (w : Word), s.admits (s.second + s.top) = true → s.mem.word (s.second + s.top) = some w →
    exec .rx s = .next { s.setStack (s.sp - 1) w with sp := s.sp - 1, pc := s.pc + 1 }) ∧
  (∀ (o : XRO) (s : State) (w : Word), s.admits (s.localAt o.regB + o.off.setWidth 32) = true → s.mem.word (s.localAt o.regB + o.off.setWidth 32) = some w →
    exec (.rri o) s = .next { s.setStack (s.fp + o.regA.setWidth 7) w with pc := s.pc + 3 }) ∧
  (∀ (o : XRO) (s : State) (w : Word), s.admits (s.auxAt o.regB + o.off.setWidth 32) = true → s.mem.word (s.auxAt o.regB + o.off.setWidth 32) = some w →
    exec (.rai o) s = .next { s.setStack (s.fp + o.regA.setWidth 7) w with pc := s.pc + 3 }) ∧
  (∀ (ab : Half) (s : State) (w : Word), s.admits (s.auxAt 0 + ab.setWidth 32) = true → s.mem.word (s.auxAt 0 + ab.setWidth 32) = some w →
    exec (.lgf ab) s = .next { s.setStack (s.sp + 1) w with sp := s.sp + 1, pc := s.pc + 3 }) ∧
  (∀ p ∈ ([(.lri0, 0), (.lri1, 1), (.lri2, 2), (.lri3, 3), (.lri4, 4), (.lri5, 5), (.lri6, 6), (.lri7, 7), (.lri8, 8), (.lri9, 9), (.lri10, 10), (.lri11, 11), (.lri12, 12), (.lri13, 13), (.lri14, 14), (.lri15, 15)] : List ((Byte → Instr) × BitVec 4)), ∀ (a : Byte) (s : State) (w : Word),
    let ea := s.stackAt (s.fp + p.2.setWidth 7) + a.setWidth 32
    s.admits ea = true → s.mem.word ea = some w →
      exec (p.1 a) s = .next { s.setStack (s.sp + 1) w with sp := s.sp + 1, pc := s.pc + 2 })

/-- Each of RRX QRX RB RSB RX RRI RAI LGF and LRI0..LRI15 stops with memory not admitted where its effective address is outside
MEM_ADMIT (decision D37, log 8), and with unwritten where the word there has a byte nothing has written (decision D30, log 7). -/
def Obligations.LoadsStopOutsideWrittenMemory : Prop :=
  ∀ s : State,
    let stops (i : Instr) (ea : Word) : Prop :=
      (s.admits ea = false → exec i s = .fault .memoryNotAdmitted) ∧
      (s.admits ea = true → s.mem.word ea = none → exec i s = .fault .unwritten)
    (∀ o : RRR, stops (.rrx o) (s.read o.file o.ra + s.read o.file o.rb)) ∧
    (∀ o : QR, stops (.qrx o) (s.readQ o.q + s.read o.file o.rb)) ∧
    (∀ a : Byte, stops (.rb a) (s.top + a.setWidth 32)) ∧ (∀ a : Byte, stops (.rsb a) (s.top + a.setWidth 32)) ∧
    stops .rx (s.second + s.top) ∧
    (∀ o : XRO, stops (.rri o) (s.localAt o.regB + o.off.setWidth 32)) ∧
    (∀ o : XRO, stops (.rai o) (s.auxAt o.regB + o.off.setWidth 32)) ∧
    (∀ ab : Half, stops (.lgf ab) (s.auxAt 0 + ab.setWidth 32)) ∧
    ∀ p ∈ ([(.lri0, 0), (.lri1, 1), (.lri2, 2), (.lri3, 3), (.lri4, 4), (.lri5, 5), (.lri6, 6), (.lri7, 7), (.lri8, 8), (.lri9, 9), (.lri10, 10), (.lri11, 11), (.lri12, 12), (.lri13, 13), (.lri14, 14), (.lri15, 15)] : List ((Byte → Instr) × BitVec 4)), ∀ a : Byte, stops (p.1 a) (s.localAt p.2 + a.setWidth 32)

/-- Where the effective address is admitted and its word holds no program text, each store completes: the word there becomes the
value, every memory cell outside that word reads as before, S moves by -2 (WB, WSB), -1 (PSB, SRIn) or 0 (WRI, WAI), PC by the
length, and nothing else changes. Word addresses are decision D13, Locals[n] D10, the conditions D37 and D29 (log 3, 4, 8, 9). -/
def Obligations.StoresWriteOneWord : Prop :=
  (∀ (a : Byte) (s : State), s.admits (s.top + a.setWidth 32) = true → s.holdsText (s.top + a.setWidth 32) = false →
    ∃ t, exec (.wb a) s = .next t ∧ WordStored s t (s.top + a.setWidth 32) (s.second) ∧ t = { s with mem := t.mem, sp := s.sp - 2, pc := s.pc + 2 }) ∧
  (∀ (a : Byte) (s : State), s.admits (s.second + a.setWidth 32) = true → s.holdsText (s.second + a.setWidth 32) = false →
    ∃ t, exec (.wsb a) s = .next t ∧ WordStored s t (s.second + a.setWidth 32) (s.top) ∧ t = { s with mem := t.mem, sp := s.sp - 2, pc := s.pc + 2 }) ∧
  (∀ (a : Byte) (s : State), s.admits (s.second + a.setWidth 32) = true → s.holdsText (s.second + a.setWidth 32) = false →
    ∃ t, exec (.psb a) s = .next t ∧ WordStored s t (s.second + a.setWidth 32) (s.top) ∧ t = { s with mem := t.mem, sp := s.sp - 1, pc := s.pc + 2 }) ∧
  (∀ (o : XRO) (s : State), s.admits (s.localAt o.regB + o.off.setWidth 32) = true → s.holdsText (s.localAt o.regB + o.off.setWidth 32) = false →
    ∃ t, exec (.wri o) s = .next t ∧ WordStored s t (s.localAt o.regB + o.off.setWidth 32) (s.localAt o.regA) ∧ t = { s with mem := t.mem, pc := s.pc + 3 }) ∧
  (∀ (o : XRO) (s : State), s.admits (s.auxAt o.regB + o.off.setWidth 32) = true → s.holdsText (s.auxAt o.regB + o.off.setWidth 32) = false →
    ∃ t, exec (.wai o) s = .next t ∧ WordStored s t (s.auxAt o.regB + o.off.setWidth 32) (s.localAt o.regA) ∧ t = { s with mem := t.mem, pc := s.pc + 3 }) ∧
  (∀ p ∈ ([(.sri0, 0), (.sri1, 1), (.sri2, 2), (.sri3, 3), (.sri4, 4), (.sri5, 5), (.sri6, 6), (.sri7, 7), (.sri8, 8), (.sri9, 9), (.sri10, 10), (.sri11, 11), (.sri12, 12), (.sri13, 13), (.sri14, 14), (.sri15, 15)] : List ((Byte → Instr) × BitVec 4)), ∀ (a : Byte) (s : State),
    let ea := s.stackAt (s.fp + p.2.setWidth 7) + a.setWidth 32
    s.admits ea = true → s.holdsText ea = false →
      ∃ t, exec (p.1 a) s = .next t ∧ WordStored s t ea s.top ∧
        t = { s with mem := t.mem, sp := s.sp - 1, pc := s.pc + 2 })

/-- Each of WB WSB PSB WRI WAI and SRI0..SRI15 stops with memory not admitted where its effective address is outside MEM_ADMIT,
and with store to program text where the word there holds a byte of the program image (decisions D37 and D29, log 8, 9). -/
def Obligations.StoresStopAtTextAndOutsideMemory : Prop :=
  ∀ s : State,
    let stops (i : Instr) (ea : Word) : Prop :=
      (s.admits ea = false → exec i s = .fault .memoryNotAdmitted) ∧
      (s.admits ea = true → s.holdsText ea = true → exec i s = .fault .storeToText)
    (∀ a : Byte, stops (.wb a) (s.top + a.setWidth 32)) ∧ (∀ a : Byte, stops (.wsb a) (s.second + a.setWidth 32)) ∧
    (∀ a : Byte, stops (.psb a) (s.second + a.setWidth 32)) ∧
    (∀ o : XRO, stops (.wri o) (s.localAt o.regB + o.off.setWidth 32)) ∧
    (∀ o : XRO, stops (.wai o) (s.auxAt o.regB + o.off.setWidth 32)) ∧
    ∀ p ∈ ([(.sri0, 0), (.sri1, 1), (.sri2, 2), (.sri3, 3), (.sri4, 4), (.sri5, 5), (.sri6, 6), (.sri7, 7), (.sri8, 8), (.sri9, 9), (.sri10, 10), (.sri11, 11), (.sri12, 12), (.sri13, 13), (.sri14, 14), (.sri15, 15)] : List ((Byte → Instr) × BitVec 4)), ∀ a : Byte, stops (p.1 a) (s.localAt p.2 + a.setWidth 32)

/-- With ptr = [S-2] + a: where the address is not admitted CST stops with memory not admitted, where it is admitted and the word
has a byte nothing has written with unwritten. Where it is admitted and holds a written word v: where v differs from [S], CST
pushes v and leaves memory alone, program text or not; where v equals [S] and the word holds no program text, it also stores
[S-1] there, every other cell reading as before, and where the word holds program text it stops. S rises by one, PC moves by
2. Compare-and-swap is decision D25 (log 19); the stops are D37, D30 and D29 (log 8, 7, 9). -/
def Obligations.ConditionalStoreComparesAndSwaps : Prop :=
  ∀ (a : Byte) (s : State),
    let ptr := s.stackAt (s.sp - 2) + a.setWidth 32
    (s.admits ptr = false → exec (.cst a) s = .fault .memoryNotAdmitted) ∧
    (s.admits ptr = true → s.mem.word ptr = none → exec (.cst a) s = .fault .unwritten) ∧
    ∀ v : Word, s.admits ptr = true → s.mem.word ptr = some v →
      (v ≠ s.top → exec (.cst a) s =
        .next { s.setStack (s.sp + 1) v with sp := s.sp + 1, pc := s.pc + 2 }) ∧
      (v = s.top → s.holdsText ptr = false →
        ∃ t, exec (.cst a) s = .next t ∧ WordStored s t ptr s.second ∧
          t = { s.setStack (s.sp + 1) v with mem := t.mem, sp := s.sp + 1, pc := s.pc + 2 }) ∧
      (v = s.top → s.holdsText ptr = true → exec (.cst a) s = .fault .storeToText)

/-- If a MemWrite of v at word address wa succeeds, then MemRead at wa gives v, and MemRead at every other word address gives what
it gave before (program order, decision D28; word addresses, D13; log 3, 28). -/
def Obligations.LoadAfterStoreReturnsTheStoredWord : Prop :=
  ∀ (s t : State) (wa v : Word), s.memWrite wa v = .ok t →
    t.memRead wa = .ok v ∧ ∀ x, x ≠ wa → t.memRead x = s.memRead x

/-- JB sets PC to PC + sext(a) and JDB to PC + sext(ab), modulo 2^32, PC being the address of the jump's own opcode byte; the
displacement being the literal as a signed number; JQB sets PC to abgd; JSD sets PC to [S] and JSR to PC + [S], both lowering
S by one; nothing else changes. All complete always. The base is decision D15 (log 23). -/
def Obligations.UnconditionalJumpsSetPc : Prop :=
  ∀ s : State,
    (∀ a : Byte, exec (.jb a) s = .next { s with pc := s.pc + a.signExtend 32 } ∧ (a.signExtend 32 : Word).toInt = a.toInt) ∧
    (∀ ab : Half, exec (.jdb ab) s = .next { s with pc := s.pc + ab.signExtend 32 } ∧
      (ab.signExtend 32 : Word).toInt = ab.toInt) ∧
    (∀ w : Word, exec (.jqb w) s = .next { s with pc := w }) ∧
    exec .jsd s = .next { s with pc := s.top, sp := s.sp - 1 } ∧
    exec .jsr s = .next { s with pc := s.pc + s.top, sp := s.sp - 1 }

/-- JEBB and JEBBJ jump by sext(b) from their own address iff [S] is the zero-extended literal a, JNEBB and JNEBBJ iff it is not;
otherwise PC moves by 3; S is lowered by one either way (decision D16, log 22); nothing else changes. All complete always. -/
def Obligations.LiteralJumpsCompareAndPop : Prop :=
  ∀ s : State,
    (∀ a b : Byte, exec (.jebb a b) s = .next { s with
      pc := if a.setWidth 32 = s.top then s.pc + b.signExtend 32 else s.pc + 3, sp := s.sp - 1 }) ∧
    (∀ a b : Byte, exec (.jebbj a b) s = .next { s with
      pc := if a.setWidth 32 = s.top then s.pc + b.signExtend 32 else s.pc + 3, sp := s.sp - 1 }) ∧
    (∀ a b : Byte, exec (.jnebb a b) s = .next { s with
      pc := if a.setWidth 32 ≠ s.top then s.pc + b.signExtend 32 else s.pc + 3, sp := s.sp - 1 }) ∧
    (∀ a b : Byte, exec (.jnebbj a b) s = .next { s with
      pc := if a.setWidth 32 ≠ s.top then s.pc + b.signExtend 32 else s.pc + 3, sp := s.sp - 1 })

/-- RJLB, RJLEB, RJEB, RJNEB, RJGEB and RJGB and their J forms jump by sext(b) from their own address iff T <, <=, =, #, >=, > Rb
as signed words; otherwise PC moves by 3; S moves by the DS of T and Rb either way; nothing else changes. All complete always.
Signed comparison is decision D17, the pops D16 (log 21, 22). -/
def Obligations.RegisterJumpsCompareSignedWords : Prop :=
  ∀ (o : RD) (s : State),
    let x := (s.readT o.t).toInt
    let y := (s.read o.file o.rb).toInt
    exec (.rjlb o) s = .next { s with
      pc := if x < y then s.pc + o.disp.signExtend 32 else s.pc + 3, sp := s.sp + (tDs o.t + srcDs o.rb) } ∧
    exec (.rjlbj o) s = .next { s with
      pc := if x < y then s.pc + o.disp.signExtend 32 else s.pc + 3, sp := s.sp + (tDs o.t + srcDs o.rb) } ∧
    exec (.rjleb o) s = .next { s with
      pc := if x ≤ y then s.pc + o.disp.signExtend 32 else s.pc + 3, sp := s.sp + (tDs o.t + srcDs o.rb) } ∧
    exec (.rjlebj o) s = .next { s with
      pc := if x ≤ y then s.pc + o.disp.signExtend 32 else s.pc + 3, sp := s.sp + (tDs o.t + srcDs o.rb) } ∧
    exec (.rjeb o) s = .next { s with
      pc := if x = y then s.pc + o.disp.signExtend 32 else s.pc + 3, sp := s.sp + (tDs o.t + srcDs o.rb) } ∧
    exec (.rjebj o) s = .next { s with
      pc := if x = y then s.pc + o.disp.signExtend 32 else s.pc + 3, sp := s.sp + (tDs o.t + srcDs o.rb) } ∧
    exec (.rjneb o) s = .next { s with
      pc := if x ≠ y then s.pc + o.disp.signExtend 32 else s.pc + 3, sp := s.sp + (tDs o.t + srcDs o.rb) } ∧
    exec (.rjnebj o) s = .next { s with
      pc := if x ≠ y then s.pc + o.disp.signExtend 32 else s.pc + 3, sp := s.sp + (tDs o.t + srcDs o.rb) } ∧
    exec (.rjgeb o) s = .next { s with
      pc := if y ≤ x then s.pc + o.disp.signExtend 32 else s.pc + 3, sp := s.sp + (tDs o.t + srcDs o.rb) } ∧
    exec (.rjgebj o) s = .next { s with
      pc := if y ≤ x then s.pc + o.disp.signExtend 32 else s.pc + 3, sp := s.sp + (tDs o.t + srcDs o.rb) } ∧
    exec (.rjgb o) s = .next { s with
      pc := if y < x then s.pc + o.disp.signExtend 32 else s.pc + 3, sp := s.sp + (tDs o.t + srcDs o.rb) } ∧
    exec (.rjgbj o) s = .next { s with
      pc := if y < x then s.pc + o.disp.signExtend 32 else s.pc + 3, sp := s.sp + (tDs o.t + srcDs o.rb) }

/-- Where u(value) < u(bound): RBC copies Ra to Rc, QBC Qs to Qd, BC pops the bound and keeps the index; S moves by DS, PC by the
length, nothing else changes, Carry included. Where u(value) >= u(bound), each enters the BoundsCheck trap from the pre-state,
nothing written and S not moved; on a full IFU stack the machine stops. Unsigned comparison is decision D17, precision and
entry D18 and D19 (log 21, 11). -/
def Obligations.BoundsChecksPassBelowAndTrapAtTheBound : Prop :=
  (∀ (o : RRR) (s : State), (s.read o.file o.ra).toNat < (s.read o.file o.rb).toNat → exec (.rbc o) s =
    .next { s.write o.file o.rc (s.read o.file o.ra) with
      sp := s.sp + (srcDs o.ra + srcDs o.rb + dstDs o.rc), pc := s.pc + 3 }) ∧
  (∀ s : State, s.second.toNat < s.top.toNat → exec .bc s = .next { s with sp := s.sp - 1, pc := s.pc + 1 }) ∧
  (∀ (o : QR) (s : State), (s.readQ o.q).toNat < (s.read o.file o.rb).toNat → exec (.qbc o) s =
    .next { s.setStack (s.qDest o.q) (s.readQ o.q) with
      sp := s.sp + (qDs o.q + srcDs o.rb), pc := s.pc + 2 }) ∧
  ∀ s : State,
    let trapped : Result := if s.ifu.length < Config.ifuStackDepth then .next (s.trapEntry .boundsCheck) else .fault .ifuOverflow
    (∀ o : RRR, (s.read o.file o.rb).toNat ≤ (s.read o.file o.ra).toNat → exec (.rbc o) s = trapped) ∧
    (s.top.toNat ≤ s.second.toNat → exec .bc s = trapped) ∧
    (∀ o : QR, (s.read o.file o.rb).toNat ≤ (s.readQ o.q).toNat → exec (.qbc o) s = trapped)

/-- Each of LADD QLADD RLADD LSUB QLSUB RLSUB, where LISP_NAN of the operands and the wrapped result is false, answers the state
in which the destination holds that result, Carry is 0, S moves by DS, PC by the length and nothing else changes, the old
Carry not entering, whether or not the IFU stack has room. Where it is true, with room on the IFU stack the state is that of
entry to the LispNaN trap (R264, decision D19, log 11), and on a full one the machine stops with IFU overflow (R264, D23, log
13). With room each completes always. LISP_NAN is open (decision D24, log 14). -/
def Obligations.LispArithmeticWrapsOrTraps : Prop :=
  ∀ s : State,
    (let done : State := { s.setStack (s.sp - 1) (s.top + s.second) with carry := false, sp := s.sp - 1, pc := s.pc + 1 };
      let nan : Bool := Config.lispNaN (s.top) (s.second) (s.top + s.second);
      (s.ifu.length < Config.ifuStackDepth → exec .ladd s = .next (if nan then s.trapEntry .lispNaN else done)) ∧
      (Config.ifuStackDepth ≤ s.ifu.length → exec .ladd s = if nan then .fault .ifuOverflow else .next done)) ∧
    (∀ o : QR, let done : State := { s.setStack (s.qDest o.q) (s.readQ o.q + s.read o.file o.rb) with
        carry := false, sp := s.sp + (qDs o.q + srcDs o.rb), pc := s.pc + 2 };
      let nan : Bool := Config.lispNaN (s.readQ o.q) (s.read o.file o.rb) (s.readQ o.q + s.read o.file o.rb);
      (s.ifu.length < Config.ifuStackDepth → exec (.qladd o) s = .next (if nan then s.trapEntry .lispNaN else done)) ∧
      (Config.ifuStackDepth ≤ s.ifu.length → exec (.qladd o) s = if nan then .fault .ifuOverflow else .next done)) ∧
    (∀ o : RRR, let done : State := { s.write o.file o.rc (s.read o.file o.ra + s.read o.file o.rb) with
        carry := false, sp := s.sp + (srcDs o.ra + srcDs o.rb + dstDs o.rc), pc := s.pc + 3 };
      let nan : Bool := Config.lispNaN (s.read o.file o.ra) (s.read o.file o.rb) (s.read o.file o.ra + s.read o.file o.rb);
      (s.ifu.length < Config.ifuStackDepth → exec (.rladd o) s = .next (if nan then s.trapEntry .lispNaN else done)) ∧
      (Config.ifuStackDepth ≤ s.ifu.length → exec (.rladd o) s = if nan then .fault .ifuOverflow else .next done)) ∧
    (let done : State := { s.setStack (s.sp - 1) (s.second - s.top) with carry := false, sp := s.sp - 1, pc := s.pc + 1 };
      let nan : Bool := Config.lispNaN (s.second) (s.top) (s.second - s.top);
      (s.ifu.length < Config.ifuStackDepth → exec .lsub s = .next (if nan then s.trapEntry .lispNaN else done)) ∧
      (Config.ifuStackDepth ≤ s.ifu.length → exec .lsub s = if nan then .fault .ifuOverflow else .next done)) ∧
    (∀ o : QR, let done : State := { s.setStack (s.qDest o.q) (s.readQ o.q - s.read o.file o.rb) with
        carry := false, sp := s.sp + (qDs o.q + srcDs o.rb), pc := s.pc + 2 };
      let nan : Bool := Config.lispNaN (s.readQ o.q) (s.read o.file o.rb) (s.readQ o.q - s.read o.file o.rb);
      (s.ifu.length < Config.ifuStackDepth → exec (.qlsub o) s = .next (if nan then s.trapEntry .lispNaN else done)) ∧
      (Config.ifuStackDepth ≤ s.ifu.length → exec (.qlsub o) s = if nan then .fault .ifuOverflow else .next done)) ∧
    (∀ o : RRR, let done : State := { s.write o.file o.rc (s.read o.file o.ra - s.read o.file o.rb) with
        carry := false, sp := s.sp + (srcDs o.ra + srcDs o.rb + dstDs o.rc), pc := s.pc + 3 };
      let nan : Bool := Config.lispNaN (s.read o.file o.ra) (s.read o.file o.rb) (s.read o.file o.ra - s.read o.file o.rb);
      (s.ifu.length < Config.ifuStackDepth → exec (.rlsub o) s = .next (if nan then s.trapEntry .lispNaN else done)) ∧
      (Config.ifuStackDepth ≤ s.ifu.length → exec (.rlsub o) s = if nan then .fault .ifuOverflow else .next done))

/-- LIP writes ProcReg[a] to Stack[S+1] and raises S by one; SIP writes [S] to ProcReg[a], leaves every other processor register
as it was, and lowers S by one; PC moves by 2 and nothing else changes. Both always complete. 256 independent cells are the
reference configuration of decision D26 (log 16). -/
def Obligations.ProcessorRegistersAreIndependentCells : Prop :=
  ∀ (a : Byte) (s : State),
    exec (.lip a) s = .next { s.setStack (s.sp + 1) (s.procAt a) with sp := s.sp + 1, pc := s.pc + 2 } ∧
    ∃ t, exec (.sip a) s = .next t ∧ t = { s with procRegs := t.procRegs, sp := s.sp - 1, pc := s.pc + 2 } ∧
      t.procAt a = s.top ∧ ∀ b, b ≠ a → t.procAt b = s.procAt b

/-- Each completes always. Where IS_READ(PCmd) holds, the word the device answers goes to Stack[S+1] (IOD, ION) or [S] (IODA);
where IS_WRITE(PCmd) holds, [S] (IOD, ION) or [S-1] (IODA) goes out, the read first. IOD adds 1 to S for the read and takes 1
for the write, IODA takes 2 for the write, ION none. PC moves by 3 and nothing else changes, memory included. The oracle and
the guards are decisions D27 and D40 (log 15, 22, 27). -/
def Obligations.IoInstructionsDispatchByCommand : Prop :=
  ∀ (o : LIO) (s : State),
    let rd := Config.isRead o.pcmd
    let wr := Config.isWrite o.pcmd
    let addr : Word := o.address.setWidth 32
    (∃ t, exec (.iod o) s = .next t ∧
      t = { s with stack := t.stack, io := t.io, sp := t.sp, pc := s.pc + 3 } ∧
      (∀ j, t.stackAt j = if rd = true ∧ j = s.sp + 1 then Config.ioRead s.io (addr) o.pcmd else s.stackAt j) ∧
      t.io = (if wr then [.write (addr) s.top o.pcmd] else []) ++ (if rd then [.read (addr) o.pcmd] else []) ++ s.io ∧
      t.sp = s.sp + (if rd then 1 else 0) - (if wr then 1 else 0)) ∧
    (∃ t, exec (.ioda o) s = .next t ∧
      t = { s with stack := t.stack, io := t.io, sp := t.sp, pc := s.pc + 3 } ∧
      (∀ j, t.stackAt j = if rd = true ∧ j = s.sp then Config.ioRead s.io (addr + s.top) o.pcmd else s.stackAt j) ∧
      t.io = (if wr then [.write (addr + s.top) s.second o.pcmd] else []) ++ (if rd then [.read (addr + s.top) o.pcmd] else []) ++ s.io ∧
      t.sp = s.sp + (if rd then 0 else 0) - (if wr then 2 else 0)) ∧
    (∃ t, exec (.ion o) s = .next t ∧
      t = { s with stack := t.stack, io := t.io, sp := t.sp, pc := s.pc + 3 } ∧
      (∀ j, t.stackAt j = if rd = true ∧ j = s.sp + 1 then Config.ioRead s.io (addr) o.pcmd else s.stackAt j) ∧
      t.io = (if wr then [.write (addr) s.top o.pcmd] else []) ++ (if rd then [.read (addr) o.pcmd] else []) ++ s.io ∧
      t.sp = s.sp + (if rd then 0 else 0) - (if wr then 0 else 0))

/-- The state a trap of any kind enters is the pre-state with [PC of the trapping instruction, L, mode, trapsEnabled, version]
pushed on the IFU stack, mode kernel and PC at TRAP_PC(kind): S, L, Stack, Carry, trapsEnabled, version, Field, memory and
every other register are unchanged. The entry sequence and the saved PC are decisions D19 and D14 (log 11). -/
def Obligations.TrapEntryPushesAndEntersKernel : Prop :=
  ∀ (s : State) (k : TrapKind), s.trapEntry k = { s with
    ifu := ⟨s.pc, s.fp, s.mode, s.trapsEnabled, s.version⟩ :: s.ifu, mode := .kernel, pc := Config.trapPc k }

/-- From any state u that has the IFU stack trap entry left, RETN restores PC to the address of the trapping instruction itself,
and L, mode, trapsEnabled, version and the IFU stack to what they were, nothing else changing; from the entry state itself it
gives back exactly the state before the trap (saved PC: decision D14, log 11). -/
def Obligations.TrapThenReturnReexecutes : Prop :=
  ∀ (s u : State) (k : TrapKind),
    (u.ifu = (s.trapEntry k).ifu →
      exec .retn u = .next { u with
        pc := s.pc, fp := s.fp, mode := s.mode, trapsEnabled := s.trapsEnabled, version := s.version, ifu := s.ifu }) ∧
    exec .retn (s.trapEntry k) = .next s

/-- If an instruction answers the entry state of a trap whose PC is not what its own call would save, it is one of the 21 with a
trap in their rows, and the kind is theirs: for every instruction, either the IFU stack is not one record taller with the
instruction's own PC in it, or the opcode is a checked add or subtract (Overflow), a bounds check (BoundsCheck) or a Lisp
instruction (LispNaN), and the state is that trap's entry. That a trap is taken and is a next state is R264 with decision D19,
that its record holds the instruction's own PC is D14 (log 11). -/
def Obligations.OnlyArithmeticBoundsAndLispTrap : Prop :=
  ∀ (i : Instr) (s t : State), exec i s = .next t →
    t.ifu = ⟨s.pc, s.fp, s.mode, s.trapsEnabled, s.version⟩ :: s.ifu →
      (opcodeOf i ∈ [0x10, 0x11, 0x12, 0x13, 0x14, 0x15, 0x18, 0x19, 0x1A, 0x1B, 0x1C, 0x1D] ∧ t = s.trapEntry .overflow) ∨
      (opcodeOf i ∈ [0xE0, 0xE1, 0xE2] ∧ t = s.trapEntry .boundsCheck) ∨
      (opcodeOf i ∈ [0xE8, 0xE9, 0xEA, 0xEB, 0xEC, 0xED] ∧ t = s.trapEntry .lispNaN)

/-- For every instruction: if it answers a state in another mode, then either the new mode is kernel and it is KFC or a trap
entry, or it is RETN or RET and the new mode is the one in the newest IFU record. KFC always answers kernel mode. RETN and RET
may so enter kernel mode too. The trap entry is R264, decision D19 (log 11). -/
def Obligations.ModeChangesOnlyByEntryAndReturn : Prop :=
  ∀ (i : Instr) (s t : State), exec i s = .next t →
    (t.mode ≠ s.mode →
      (t.mode = .kernel ∧ (i = .kfc ∨ ∃ k, t = s.trapEntry k)) ∨
      ((i = .retn ∨ ∃ a, i = .ret a) ∧ ∃ r rest, s.ifu = r :: rest ∧ t.mode = r.mode)) ∧
    (i = .kfc → t.mode = .kernel)

/-- For every instruction that answers a next state t: it is RUADD or RUSUB; or it is one of the 18 checked and Lisp instructions
and t is a trap entry, with Carry as it was, or has Carry 0; or Carry is unchanged (R28, its list of writers). -/
def Obligations.CarryIsWrittenAsItsRuleLists : Prop :=
  ∀ (i : Instr) (s t : State), exec i s = .next t →
    (opcodeOf i ∈ [0x16, 0x1E]) ∨
    (opcodeOf i ∈ [0x10, 0x11, 0x12, 0x13, 0x14, 0x15, 0x18, 0x19, 0x1A, 0x1B, 0x1C, 0x1D, 0xE8, 0xE9, 0xEA, 0xEB, 0xEC, 0xED] ∧
      (t.carry = false ∨ ∃ k, t = s.trapEntry k)) ∨
    (opcodeOf i ∉ [0x10, 0x11, 0x12, 0x13, 0x14, 0x15, 0x16, 0x18, 0x19, 0x1A, 0x1B, 0x1C, 0x1D, 0x1E, 0xE8, 0xE9, 0xEA, 0xEB, 0xEC, 0xED] ∧
      t.carry = s.carry)

/-- For every instruction that answers a next state: Field is as it was unless it is FSDB; ProcReg unless SIP; L unless ALS, AL,
RETN or RET; trapsEnabled and version unless RETN or RET; the IFU stack unless a call, a return or a trap entry; memory unless
a store (opcodes A0..A5, B0..BF); the I/O history unless IOD, IODA or ION; AuxRegs and Constants unless it is one of the
fourteen RRR instructions. -/
def Obligations.StateIsWrittenOnlyByItsWriters : Prop :=
  ∀ (i : Instr) (s t : State), exec i s = .next t →
    (t.field = s.field ∨ opcodeOf i = 0x2C) ∧
    (t.procRegs = s.procRegs ∨ opcodeOf i = 0xF1) ∧
    (t.fp = s.fp ∨ opcodeOf i ∈ [0x55, 0x56, 0x5B, 0x5C]) ∧
    ((t.trapsEnabled = s.trapsEnabled ∧ t.version = s.version) ∨ opcodeOf i ∈ [0x55, 0x56]) ∧
    (t.ifu = s.ifu ∨ opcodeOf i ∈ [0x50, 0x51, 0x52, 0x53, 0x54, 0x55, 0x56] ∨ ∃ k, t = s.trapEntry k) ∧
    (t.mem = s.mem ∨ (0xA0 ≤ opcodeOf i ∧ opcodeOf i ≤ 0xA5) ∨ (0xB0 ≤ opcodeOf i ∧ opcodeOf i ≤ 0xBF)) ∧
    (t.io = s.io ∨ opcodeOf i ∈ [0xF2, 0xF3, 0xF4]) ∧
    ((t.consts = s.consts ∧ t.aux = s.aux) ∨
      opcodeOf i ∈ [0x14, 0x16, 0x17, 0x1C, 0x1E, 0x1F, 0x21, 0x24, 0x26, 0x2D, 0x80, 0xE0, 0xEA, 0xED])

/-- For every instruction outside the calls and returns (50..56) and the jumps (C0..C4, D0..DF) of REF_OPC that answers a next
state, PC is the old PC plus the instruction's length modulo 2^32, or the state is a trap entry (decisions D15 and D36 for
base and wrap, log 23, 29). -/
def Obligations.PcAdvancesByTheLengthUnlessAssigned : Prop :=
  ∀ (i : Instr) (s t : State), exec i s = .next t →
    ¬ (0x50 ≤ opcodeOf i ∧ opcodeOf i ≤ 0x56) → ¬ (0xC0 ≤ opcodeOf i ∧ opcodeOf i ≤ 0xC4) →
    ¬ (0xD0 ≤ opcodeOf i ∧ opcodeOf i ≤ 0xDF) →
      t.pc = s.pc + BitVec.ofNat 32 (encode i).length ∨ ∃ k, t = s.trapEntry k

/-- For each of the eight pairs of conditional jumps and all operands, the plain opcode and the J opcode answer the same from
every state (R217). -/
def Obligations.PredictionSuffixHasNoEffect : Prop :=
  ∀ s : State,
    (∀ a b, exec (.jebb a b) s = exec (.jebbj a b) s ∧ exec (.jnebb a b) s = exec (.jnebbj a b) s) ∧
    ∀ o, exec (.rjlb o) s = exec (.rjlbj o) s ∧ exec (.rjleb o) s = exec (.rjlebj o) s ∧ exec (.rjeb o) s = exec (.rjebj o) s ∧
      exec (.rjneb o) s = exec (.rjnebj o) s ∧ exec (.rjgeb o) s = exec (.rjgebj o) s ∧ exec (.rjgb o) s = exec (.rjgbj o) s

/-- No step from any state is refused for want of a meaning or for want of operand bytes: the refusals a step can answer are the
unassigned opcode, the reserved Rc code and the field descriptor out of range of R262 (the split of the spec's refusals into
faults and refusals is log 10). -/
def Obligations.NoStepAnswersNotModelled : Prop :=
  ∀ (s : State) (r : Refusal), step s = .refused r →
    (∃ op, r = .unassignedOpcode op ∧ opLength op = none) ∨ r = .reservedRcCode ∨ r = .fieldDescriptor

/-- REF_OPC is injective. For every injective map opc from the 175 mnemonics to byte values, either LIO split and the reference
operand codes: for every well-formed instruction, whatever bytes follow it, the decoder given that coding reads from the
encoding under it exactly that instruction and leaves the bytes that follow; and it refuses as unassigned every byte value
that opc gives to no mnemonic. OPC and LIO_SPLIT are parameters by decisions D3 and D6 (log 1, 2), the refusal is D31. -/
def Obligations.EveryInjectiveOpcodeMapDecodesWhatItEncodes : Prop :=
  Function.Injective Config.refOpc ∧
  ∀ (opc : Mnemonic → Byte) (split : Config.LioSplit), Function.Injective opc →
    let c : Config.Coding := ⟨opc, Config.regCode, split⟩
    (∀ (i : Instr) (rest : List Byte), wellFormed i = true → decodeWith c (encodeWith c i ++ rest) = .ok (i, rest)) ∧
    (∀ (op : Byte) (rest : List Byte), (∀ m, opc m ≠ op) → decodeWith c (op :: rest) = .error (.unassignedOpcode op))
end

