-- ==== Sys2Proof/Laws/Memory.lean ====
section
/-! SUPPORT. Memory cells and words: reads after writes, and the canonical form. -/

namespace Sys2Proof.Machine

/-! Cells -/

theorem Memory.get_put_self (m : Memory) (a : Nat) (v : Byte) : (m.put a v).get a = some v := by
  induction m with
  | nil => simp [Memory.put, Memory.get]
  | cons c m ih =>
    obtain ⟨k, b⟩ := c
    simp only [Memory.put]
    split
    · simp [Memory.get]
    · split
      · simp [Memory.get]
      · next h => simpa [Memory.get, h] using ih

theorem Memory.get_put_ne (m : Memory) {a x : Nat} (v : Byte) (h : x ≠ a) : (m.put a v).get x = m.get x := by
  induction m with
  | nil => simp [Memory.put, Memory.get, Ne.symm h]
  | cons c m ih =>
    obtain ⟨k, b⟩ := c
    simp only [Memory.put]
    split
    · simp [Memory.get, Ne.symm h]
    · split
      · next hk => subst hk; simp [Memory.get, Ne.symm h]
      · simp only [Memory.get, ih]

theorem Memory.get_put (m : Memory) (a x : Nat) (v : Byte) :
    (m.put a v).get x = if x = a then some v else m.get x := by
  split
  · next h => subst h; exact Memory.get_put_self m x v
  · next h => exact Memory.get_put_ne m v h

theorem Memory.mem_put (m : Memory) (a : Nat) (v : Byte) (c : Host.Cell) (h : c ∈ m.put a v) : c = (a, v) ∨ c ∈ m := by
  induction m with
  | nil => simpa [Memory.put] using h
  | cons d m ih =>
    obtain ⟨k, b⟩ := d
    simp only [Memory.put] at h
    split at h
    · simpa using h
    · split at h
      · rcases List.mem_cons.1 h with h | h
        · exact .inl h
        · exact .inr (List.mem_cons_of_mem _ h)
      · rcases List.mem_cons.1 h with h | h
        · exact .inr (h ▸ List.mem_cons_self)
        · exact (ih h).imp_right (List.mem_cons_of_mem _)

theorem Memory.pairwise_put (m : Memory) (a : Nat) (v : Byte) (h : m.Pairwise fun x y => x.1 < y.1) :
    (m.put a v).Pairwise fun x y => x.1 < y.1 := by
  induction m with
  | nil => simp [Memory.put]
  | cons d m ih =>
    obtain ⟨k, b⟩ := d
    have hk := (List.pairwise_cons.1 h).1
    have hm := List.Pairwise.of_cons h
    simp only [Memory.put]
    split
    · next hlt =>
      refine List.pairwise_cons.2 ⟨fun c hc => ?_, h⟩
      rcases List.mem_cons.1 hc with hc | hc
      · subst hc; exact hlt
      · exact Nat.lt_trans hlt (hk c hc)
    · split
      · next hka => subst hka; exact List.pairwise_cons.2 ⟨hk, hm⟩
      · refine List.pairwise_cons.2 ⟨fun c hc => ?_, ih hm⟩
        rcases Memory.mem_put m a v c hc with hc | hc
        · subst hc; simp only; omega
        · exact hk c hc

/-- A write of a cell keeps the canonical form. -/
theorem Memory.wf_put (m : Memory) (a : Nat) (v : Byte) (ha : a < Memory.size) (h : Memory.wf m) : Memory.wf (m.put a v) :=
  ⟨Memory.pairwise_put m a v h.1, fun c hc => by
    rcases Memory.mem_put m a v c hc with rfl | hc
    · exact ha
    · exact h.2 c hc⟩

/-! Words -/

/-- The cells of a data word at ADDR_UNIT = word. -/
theorem dataCell_eq (wa : Word) (k : Nat) : dataCell wa k = 4 * wa.toNat + k := rfl

theorem dataCell_lt (wa : Word) {k : Nat} (hk : k < 4) : dataCell wa k < Memory.size := by
  have := wa.isLt
  simp only [dataCell_eq, Memory.size]
  omega

/-- A write of a word keeps the canonical form. -/
theorem Memory.wf_putWord (m : Memory) (wa v : Word) (h : Memory.wf m) : Memory.wf (m.putWord wa v) := by
  unfold Memory.putWord
  exact Memory.wf_put _ _ _ (dataCell_lt wa (by omega)) (Memory.wf_put _ _ _ (dataCell_lt wa (by omega))
    (Memory.wf_put _ _ _ (dataCell_lt wa (by omega)) (Memory.wf_put _ _ _ (dataCell_lt wa (by omega)) h)))

/-- What each cell holds after a write of a word. -/
theorem Memory.get_putWord (m : Memory) (wa v : Word) (a : Nat) :
    (m.putWord wa v).get a =
      if a = dataCell wa 3 then some (v.extractLsb' 0 8) else
      if a = dataCell wa 2 then some (v.extractLsb' 8 8) else
      if a = dataCell wa 1 then some (v.extractLsb' 16 8) else
      if a = dataCell wa 0 then some (v.extractLsb' 24 8) else m.get a := by
  simp only [Memory.putWord, Memory.get_put]

/-- A write of a word leaves every cell outside the word alone. -/
theorem Memory.get_putWord_outside (m : Memory) (wa v : Word) (a : Nat) (h : a < dataCell wa 0 ∨ dataCell wa 3 < a) :
    (m.putWord wa v).get a = m.get a := by
  have ne : ∀ k < 4, a ≠ dataCell wa k := by simp only [dataCell_eq] at *; omega
  rw [Memory.get_putWord, if_neg (ne 3 (by omega)), if_neg (ne 2 (by omega)), if_neg (ne 1 (by omega)), if_neg (ne 0 (by omega))]

theorem extract_append (v : Word) :
    (v.extractLsb' 24 8 ++ v.extractLsb' 16 8 ++ v.extractLsb' 8 8 ++ v.extractLsb' 0 8 : Word) = v := by
  apply BitVec.eq_of_getLsbD_eq
  intro i hi
  simp only [BitVec.getLsbD_append, BitVec.getLsbD_extractLsb']
  by_cases h1 : i < 8
  · simp [h1]
  · by_cases h2 : i < 16
    · simp [h1, show i - 8 < 8 by omega, show 8 + (i - 8) = i by omega]
    · by_cases h3 : i < 24
      · simp [h1, show ¬ i - 8 < 8 by omega, show i - 8 - 8 < 8 by omega, show 16 + (i - 8 - 8) = i by omega]
      · simp [h1, show ¬ i - 8 < 8 by omega, show ¬ i - 8 - 8 < 8 by omega, show i - 8 - 8 - 8 < 8 by omega,
          show 24 + (i - 8 - 8 - 8) = i by omega]

/-- A read of a word after a write to it gives the value written. -/
theorem Memory.word_putWord_self (m : Memory) (wa v : Word) : (m.putWord wa v).word wa = some v := by
  simp only [Memory.word, Memory.get_putWord]
  simp [dataCell_eq, extract_append]

/-- A write of a word leaves every other word alone. -/
theorem Memory.word_putWord_ne (m : Memory) {wa x : Word} (v : Word) (h : x ≠ wa) : (m.putWord wa v).word x = m.word x := by
  have hne : x.toNat ≠ wa.toNat := fun e => h (BitVec.eq_of_toNat_eq e)
  have key : ∀ k < 4, (m.putWord wa v).get (dataCell x k) = m.get (dataCell x k) := fun k hk =>
    Memory.get_putWord_outside m wa v _ (by simp only [dataCell_eq]; omega)
  simp only [Memory.word, key 0 (by omega), key 1 (by omega), key 2 (by omega), key 3 (by omega)]

end Sys2Proof.Machine
end

