-- ==== Sys2Proof/Laws/State.lean ====
section
/-! SUPPORT. One lemma per field per update of State, so that no proof unfolds a record update, and the reads of registers after
the writes of them. -/

namespace Sys2Proof.Machine

/-! setStack -/

@[simp] theorem State.setStack_stack (s : State) (i : StackIx) (v : Word) : (s.setStack i v).stack = s.stack.set i.toNat v i.isLt := rfl
@[simp] theorem State.setStack_sp (s : State) (i : StackIx) (v : Word) : (s.setStack i v).sp = s.sp := rfl
@[simp] theorem State.setStack_fp (s : State) (i : StackIx) (v : Word) : (s.setStack i v).fp = s.fp := rfl
@[simp] theorem State.setStack_consts (s : State) (i : StackIx) (v : Word) : (s.setStack i v).consts = s.consts := rfl
@[simp] theorem State.setStack_aux (s : State) (i : StackIx) (v : Word) : (s.setStack i v).aux = s.aux := rfl
@[simp] theorem State.setStack_pc (s : State) (i : StackIx) (v : Word) : (s.setStack i v).pc = s.pc := rfl
@[simp] theorem State.setStack_carry (s : State) (i : StackIx) (v : Word) : (s.setStack i v).carry = s.carry := rfl
@[simp] theorem State.setStack_field (s : State) (i : StackIx) (v : Word) : (s.setStack i v).field = s.field := rfl
@[simp] theorem State.setStack_ifu (s : State) (i : StackIx) (v : Word) : (s.setStack i v).ifu = s.ifu := rfl
@[simp] theorem State.setStack_mode (s : State) (i : StackIx) (v : Word) : (s.setStack i v).mode = s.mode := rfl
@[simp] theorem State.setStack_trapsEnabled (s : State) (i : StackIx) (v : Word) : (s.setStack i v).trapsEnabled = s.trapsEnabled := rfl
@[simp] theorem State.setStack_version (s : State) (i : StackIx) (v : Word) : (s.setStack i v).version = s.version := rfl
@[simp] theorem State.setStack_procRegs (s : State) (i : StackIx) (v : Word) : (s.setStack i v).procRegs = s.procRegs := rfl
@[simp] theorem State.setStack_mem (s : State) (i : StackIx) (v : Word) : (s.setStack i v).mem = s.mem := rfl
@[simp] theorem State.setStack_admit (s : State) (i : StackIx) (v : Word) : (s.setStack i v).admitted = s.admitted := rfl
@[simp] theorem State.setStack_text (s : State) (i : StackIx) (v : Word) : (s.setStack i v).text = s.text := rfl
@[simp] theorem State.setStack_io (s : State) (i : StackIx) (v : Word) : (s.setStack i v).io = s.io := rfl

/-! setLocal -/

@[simp] theorem State.setLocal_stack (s : State) (n : BitVec 4) (v : Word) : (s.setLocal n v).stack = s.stack.set (s.localIx n).toNat v (s.localIx n).isLt := rfl
@[simp] theorem State.setLocal_sp (s : State) (n : BitVec 4) (v : Word) : (s.setLocal n v).sp = s.sp := rfl
@[simp] theorem State.setLocal_fp (s : State) (n : BitVec 4) (v : Word) : (s.setLocal n v).fp = s.fp := rfl
@[simp] theorem State.setLocal_consts (s : State) (n : BitVec 4) (v : Word) : (s.setLocal n v).consts = s.consts := rfl
@[simp] theorem State.setLocal_aux (s : State) (n : BitVec 4) (v : Word) : (s.setLocal n v).aux = s.aux := rfl
@[simp] theorem State.setLocal_pc (s : State) (n : BitVec 4) (v : Word) : (s.setLocal n v).pc = s.pc := rfl
@[simp] theorem State.setLocal_carry (s : State) (n : BitVec 4) (v : Word) : (s.setLocal n v).carry = s.carry := rfl
@[simp] theorem State.setLocal_field (s : State) (n : BitVec 4) (v : Word) : (s.setLocal n v).field = s.field := rfl
@[simp] theorem State.setLocal_ifu (s : State) (n : BitVec 4) (v : Word) : (s.setLocal n v).ifu = s.ifu := rfl
@[simp] theorem State.setLocal_mode (s : State) (n : BitVec 4) (v : Word) : (s.setLocal n v).mode = s.mode := rfl
@[simp] theorem State.setLocal_trapsEnabled (s : State) (n : BitVec 4) (v : Word) : (s.setLocal n v).trapsEnabled = s.trapsEnabled := rfl
@[simp] theorem State.setLocal_version (s : State) (n : BitVec 4) (v : Word) : (s.setLocal n v).version = s.version := rfl
@[simp] theorem State.setLocal_procRegs (s : State) (n : BitVec 4) (v : Word) : (s.setLocal n v).procRegs = s.procRegs := rfl
@[simp] theorem State.setLocal_mem (s : State) (n : BitVec 4) (v : Word) : (s.setLocal n v).mem = s.mem := rfl
@[simp] theorem State.setLocal_admit (s : State) (n : BitVec 4) (v : Word) : (s.setLocal n v).admitted = s.admitted := rfl
@[simp] theorem State.setLocal_text (s : State) (n : BitVec 4) (v : Word) : (s.setLocal n v).text = s.text := rfl
@[simp] theorem State.setLocal_io (s : State) (n : BitVec 4) (v : Word) : (s.setLocal n v).io = s.io := rfl

/-! setConst -/

@[simp] theorem State.setConst_stack (s : State) (m : Fin 12) (v : Word) : (s.setConst m v).stack = s.stack := rfl
@[simp] theorem State.setConst_sp (s : State) (m : Fin 12) (v : Word) : (s.setConst m v).sp = s.sp := rfl
@[simp] theorem State.setConst_fp (s : State) (m : Fin 12) (v : Word) : (s.setConst m v).fp = s.fp := rfl
@[simp] theorem State.setConst_consts (s : State) (m : Fin 12) (v : Word) : (s.setConst m v).consts = s.consts.set m.val v m.isLt := rfl
@[simp] theorem State.setConst_aux (s : State) (m : Fin 12) (v : Word) : (s.setConst m v).aux = s.aux := rfl
@[simp] theorem State.setConst_pc (s : State) (m : Fin 12) (v : Word) : (s.setConst m v).pc = s.pc := rfl
@[simp] theorem State.setConst_carry (s : State) (m : Fin 12) (v : Word) : (s.setConst m v).carry = s.carry := rfl
@[simp] theorem State.setConst_field (s : State) (m : Fin 12) (v : Word) : (s.setConst m v).field = s.field := rfl
@[simp] theorem State.setConst_ifu (s : State) (m : Fin 12) (v : Word) : (s.setConst m v).ifu = s.ifu := rfl
@[simp] theorem State.setConst_mode (s : State) (m : Fin 12) (v : Word) : (s.setConst m v).mode = s.mode := rfl
@[simp] theorem State.setConst_trapsEnabled (s : State) (m : Fin 12) (v : Word) : (s.setConst m v).trapsEnabled = s.trapsEnabled := rfl
@[simp] theorem State.setConst_version (s : State) (m : Fin 12) (v : Word) : (s.setConst m v).version = s.version := rfl
@[simp] theorem State.setConst_procRegs (s : State) (m : Fin 12) (v : Word) : (s.setConst m v).procRegs = s.procRegs := rfl
@[simp] theorem State.setConst_mem (s : State) (m : Fin 12) (v : Word) : (s.setConst m v).mem = s.mem := rfl
@[simp] theorem State.setConst_admit (s : State) (m : Fin 12) (v : Word) : (s.setConst m v).admitted = s.admitted := rfl
@[simp] theorem State.setConst_text (s : State) (m : Fin 12) (v : Word) : (s.setConst m v).text = s.text := rfl
@[simp] theorem State.setConst_io (s : State) (m : Fin 12) (v : Word) : (s.setConst m v).io = s.io := rfl

/-! setAux -/

@[simp] theorem State.setAux_stack (s : State) (n : BitVec 4) (v : Word) : (s.setAux n v).stack = s.stack := rfl
@[simp] theorem State.setAux_sp (s : State) (n : BitVec 4) (v : Word) : (s.setAux n v).sp = s.sp := rfl
@[simp] theorem State.setAux_fp (s : State) (n : BitVec 4) (v : Word) : (s.setAux n v).fp = s.fp := rfl
@[simp] theorem State.setAux_consts (s : State) (n : BitVec 4) (v : Word) : (s.setAux n v).consts = s.consts := rfl
@[simp] theorem State.setAux_aux (s : State) (n : BitVec 4) (v : Word) : (s.setAux n v).aux = s.aux.set n.toNat v n.isLt := rfl
@[simp] theorem State.setAux_pc (s : State) (n : BitVec 4) (v : Word) : (s.setAux n v).pc = s.pc := rfl
@[simp] theorem State.setAux_carry (s : State) (n : BitVec 4) (v : Word) : (s.setAux n v).carry = s.carry := rfl
@[simp] theorem State.setAux_field (s : State) (n : BitVec 4) (v : Word) : (s.setAux n v).field = s.field := rfl
@[simp] theorem State.setAux_ifu (s : State) (n : BitVec 4) (v : Word) : (s.setAux n v).ifu = s.ifu := rfl
@[simp] theorem State.setAux_mode (s : State) (n : BitVec 4) (v : Word) : (s.setAux n v).mode = s.mode := rfl
@[simp] theorem State.setAux_trapsEnabled (s : State) (n : BitVec 4) (v : Word) : (s.setAux n v).trapsEnabled = s.trapsEnabled := rfl
@[simp] theorem State.setAux_version (s : State) (n : BitVec 4) (v : Word) : (s.setAux n v).version = s.version := rfl
@[simp] theorem State.setAux_procRegs (s : State) (n : BitVec 4) (v : Word) : (s.setAux n v).procRegs = s.procRegs := rfl
@[simp] theorem State.setAux_mem (s : State) (n : BitVec 4) (v : Word) : (s.setAux n v).mem = s.mem := rfl
@[simp] theorem State.setAux_admit (s : State) (n : BitVec 4) (v : Word) : (s.setAux n v).admitted = s.admitted := rfl
@[simp] theorem State.setAux_text (s : State) (n : BitVec 4) (v : Word) : (s.setAux n v).text = s.text := rfl
@[simp] theorem State.setAux_io (s : State) (n : BitVec 4) (v : Word) : (s.setAux n v).io = s.io := rfl

/-! setProc -/

@[simp] theorem State.setProc_stack (s : State) (a : Byte) (v : Word) : (s.setProc a v).stack = s.stack := rfl
@[simp] theorem State.setProc_sp (s : State) (a : Byte) (v : Word) : (s.setProc a v).sp = s.sp := rfl
@[simp] theorem State.setProc_fp (s : State) (a : Byte) (v : Word) : (s.setProc a v).fp = s.fp := rfl
@[simp] theorem State.setProc_consts (s : State) (a : Byte) (v : Word) : (s.setProc a v).consts = s.consts := rfl
@[simp] theorem State.setProc_aux (s : State) (a : Byte) (v : Word) : (s.setProc a v).aux = s.aux := rfl
@[simp] theorem State.setProc_pc (s : State) (a : Byte) (v : Word) : (s.setProc a v).pc = s.pc := rfl
@[simp] theorem State.setProc_carry (s : State) (a : Byte) (v : Word) : (s.setProc a v).carry = s.carry := rfl
@[simp] theorem State.setProc_field (s : State) (a : Byte) (v : Word) : (s.setProc a v).field = s.field := rfl
@[simp] theorem State.setProc_ifu (s : State) (a : Byte) (v : Word) : (s.setProc a v).ifu = s.ifu := rfl
@[simp] theorem State.setProc_mode (s : State) (a : Byte) (v : Word) : (s.setProc a v).mode = s.mode := rfl
@[simp] theorem State.setProc_trapsEnabled (s : State) (a : Byte) (v : Word) : (s.setProc a v).trapsEnabled = s.trapsEnabled := rfl
@[simp] theorem State.setProc_version (s : State) (a : Byte) (v : Word) : (s.setProc a v).version = s.version := rfl
@[simp] theorem State.setProc_procRegs (s : State) (a : Byte) (v : Word) : (s.setProc a v).procRegs = Config.procWrite s.procRegs a v := rfl
@[simp] theorem State.setProc_mem (s : State) (a : Byte) (v : Word) : (s.setProc a v).mem = s.mem := rfl
@[simp] theorem State.setProc_admit (s : State) (a : Byte) (v : Word) : (s.setProc a v).admitted = s.admitted := rfl
@[simp] theorem State.setProc_text (s : State) (a : Byte) (v : Word) : (s.setProc a v).text = s.text := rfl
@[simp] theorem State.setProc_io (s : State) (a : Byte) (v : Word) : (s.setProc a v).io = s.io := rfl

/-! setCarry -/

@[simp] theorem State.setCarry_stack (s : State) (c : Bool) : (s.setCarry c).stack = s.stack := rfl
@[simp] theorem State.setCarry_sp (s : State) (c : Bool) : (s.setCarry c).sp = s.sp := rfl
@[simp] theorem State.setCarry_fp (s : State) (c : Bool) : (s.setCarry c).fp = s.fp := rfl
@[simp] theorem State.setCarry_consts (s : State) (c : Bool) : (s.setCarry c).consts = s.consts := rfl
@[simp] theorem State.setCarry_aux (s : State) (c : Bool) : (s.setCarry c).aux = s.aux := rfl
@[simp] theorem State.setCarry_pc (s : State) (c : Bool) : (s.setCarry c).pc = s.pc := rfl
@[simp] theorem State.setCarry_carry (s : State) (c : Bool) : (s.setCarry c).carry = c := rfl
@[simp] theorem State.setCarry_field (s : State) (c : Bool) : (s.setCarry c).field = s.field := rfl
@[simp] theorem State.setCarry_ifu (s : State) (c : Bool) : (s.setCarry c).ifu = s.ifu := rfl
@[simp] theorem State.setCarry_mode (s : State) (c : Bool) : (s.setCarry c).mode = s.mode := rfl
@[simp] theorem State.setCarry_trapsEnabled (s : State) (c : Bool) : (s.setCarry c).trapsEnabled = s.trapsEnabled := rfl
@[simp] theorem State.setCarry_version (s : State) (c : Bool) : (s.setCarry c).version = s.version := rfl
@[simp] theorem State.setCarry_procRegs (s : State) (c : Bool) : (s.setCarry c).procRegs = s.procRegs := rfl
@[simp] theorem State.setCarry_mem (s : State) (c : Bool) : (s.setCarry c).mem = s.mem := rfl
@[simp] theorem State.setCarry_admit (s : State) (c : Bool) : (s.setCarry c).admitted = s.admitted := rfl
@[simp] theorem State.setCarry_text (s : State) (c : Bool) : (s.setCarry c).text = s.text := rfl
@[simp] theorem State.setCarry_io (s : State) (c : Bool) : (s.setCarry c).io = s.io := rfl

/-! advance -/

@[simp] theorem State.advance_stack (s : State) (len : Word) (ds : StackIx) : (s.advance len ds).stack = s.stack := rfl
@[simp] theorem State.advance_sp (s : State) (len : Word) (ds : StackIx) : (s.advance len ds).sp = s.sp + ds := rfl
@[simp] theorem State.advance_fp (s : State) (len : Word) (ds : StackIx) : (s.advance len ds).fp = s.fp := rfl
@[simp] theorem State.advance_consts (s : State) (len : Word) (ds : StackIx) : (s.advance len ds).consts = s.consts := rfl
@[simp] theorem State.advance_aux (s : State) (len : Word) (ds : StackIx) : (s.advance len ds).aux = s.aux := rfl
@[simp] theorem State.advance_pc (s : State) (len : Word) (ds : StackIx) : (s.advance len ds).pc = s.pc + len := rfl
@[simp] theorem State.advance_carry (s : State) (len : Word) (ds : StackIx) : (s.advance len ds).carry = s.carry := rfl
@[simp] theorem State.advance_field (s : State) (len : Word) (ds : StackIx) : (s.advance len ds).field = s.field := rfl
@[simp] theorem State.advance_ifu (s : State) (len : Word) (ds : StackIx) : (s.advance len ds).ifu = s.ifu := rfl
@[simp] theorem State.advance_mode (s : State) (len : Word) (ds : StackIx) : (s.advance len ds).mode = s.mode := rfl
@[simp] theorem State.advance_trapsEnabled (s : State) (len : Word) (ds : StackIx) : (s.advance len ds).trapsEnabled = s.trapsEnabled := rfl
@[simp] theorem State.advance_version (s : State) (len : Word) (ds : StackIx) : (s.advance len ds).version = s.version := rfl
@[simp] theorem State.advance_procRegs (s : State) (len : Word) (ds : StackIx) : (s.advance len ds).procRegs = s.procRegs := rfl
@[simp] theorem State.advance_mem (s : State) (len : Word) (ds : StackIx) : (s.advance len ds).mem = s.mem := rfl
@[simp] theorem State.advance_admit (s : State) (len : Word) (ds : StackIx) : (s.advance len ds).admitted = s.admitted := rfl
@[simp] theorem State.advance_text (s : State) (len : Word) (ds : StackIx) : (s.advance len ds).text = s.text := rfl
@[simp] theorem State.advance_io (s : State) (len : Word) (ds : StackIx) : (s.advance len ds).io = s.io := rfl

/-! push -/

@[simp] theorem State.push_stack (s : State) (v len : Word) : (s.push v len).stack = s.stack.set (s.sp + 1).toNat v (s.sp + 1).isLt := rfl
@[simp] theorem State.push_sp (s : State) (v len : Word) : (s.push v len).sp = s.sp + 1 := rfl
@[simp] theorem State.push_fp (s : State) (v len : Word) : (s.push v len).fp = s.fp := rfl
@[simp] theorem State.push_consts (s : State) (v len : Word) : (s.push v len).consts = s.consts := rfl
@[simp] theorem State.push_aux (s : State) (v len : Word) : (s.push v len).aux = s.aux := rfl
@[simp] theorem State.push_pc (s : State) (v len : Word) : (s.push v len).pc = s.pc + len := rfl
@[simp] theorem State.push_carry (s : State) (v len : Word) : (s.push v len).carry = s.carry := rfl
@[simp] theorem State.push_field (s : State) (v len : Word) : (s.push v len).field = s.field := rfl
@[simp] theorem State.push_ifu (s : State) (v len : Word) : (s.push v len).ifu = s.ifu := rfl
@[simp] theorem State.push_mode (s : State) (v len : Word) : (s.push v len).mode = s.mode := rfl
@[simp] theorem State.push_trapsEnabled (s : State) (v len : Word) : (s.push v len).trapsEnabled = s.trapsEnabled := rfl
@[simp] theorem State.push_version (s : State) (v len : Word) : (s.push v len).version = s.version := rfl
@[simp] theorem State.push_procRegs (s : State) (v len : Word) : (s.push v len).procRegs = s.procRegs := rfl
@[simp] theorem State.push_mem (s : State) (v len : Word) : (s.push v len).mem = s.mem := rfl
@[simp] theorem State.push_admit (s : State) (v len : Word) : (s.push v len).admitted = s.admitted := rfl
@[simp] theorem State.push_text (s : State) (v len : Word) : (s.push v len).text = s.text := rfl
@[simp] theorem State.push_io (s : State) (v len : Word) : (s.push v len).io = s.io := rfl

/-! replaceTop -/

@[simp] theorem State.replaceTop_stack (s : State) (v len : Word) : (s.replaceTop v len).stack = s.stack.set s.sp.toNat v s.sp.isLt := rfl
@[simp] theorem State.replaceTop_sp (s : State) (v len : Word) : (s.replaceTop v len).sp = s.sp + 0 := rfl
@[simp] theorem State.replaceTop_fp (s : State) (v len : Word) : (s.replaceTop v len).fp = s.fp := rfl
@[simp] theorem State.replaceTop_consts (s : State) (v len : Word) : (s.replaceTop v len).consts = s.consts := rfl
@[simp] theorem State.replaceTop_aux (s : State) (v len : Word) : (s.replaceTop v len).aux = s.aux := rfl
@[simp] theorem State.replaceTop_pc (s : State) (v len : Word) : (s.replaceTop v len).pc = s.pc + len := rfl
@[simp] theorem State.replaceTop_carry (s : State) (v len : Word) : (s.replaceTop v len).carry = s.carry := rfl
@[simp] theorem State.replaceTop_field (s : State) (v len : Word) : (s.replaceTop v len).field = s.field := rfl
@[simp] theorem State.replaceTop_ifu (s : State) (v len : Word) : (s.replaceTop v len).ifu = s.ifu := rfl
@[simp] theorem State.replaceTop_mode (s : State) (v len : Word) : (s.replaceTop v len).mode = s.mode := rfl
@[simp] theorem State.replaceTop_trapsEnabled (s : State) (v len : Word) : (s.replaceTop v len).trapsEnabled = s.trapsEnabled := rfl
@[simp] theorem State.replaceTop_version (s : State) (v len : Word) : (s.replaceTop v len).version = s.version := rfl
@[simp] theorem State.replaceTop_procRegs (s : State) (v len : Word) : (s.replaceTop v len).procRegs = s.procRegs := rfl
@[simp] theorem State.replaceTop_mem (s : State) (v len : Word) : (s.replaceTop v len).mem = s.mem := rfl
@[simp] theorem State.replaceTop_admit (s : State) (v len : Word) : (s.replaceTop v len).admitted = s.admitted := rfl
@[simp] theorem State.replaceTop_text (s : State) (v len : Word) : (s.replaceTop v len).text = s.text := rfl
@[simp] theorem State.replaceTop_io (s : State) (v len : Word) : (s.replaceTop v len).io = s.io := rfl

/-! combine -/

@[simp] theorem State.combine_stack (s : State) (v len : Word) : (s.combine v len).stack = s.stack.set (s.sp - 1).toNat v (s.sp - 1).isLt := rfl
@[simp] theorem State.combine_sp (s : State) (v len : Word) : (s.combine v len).sp = s.sp + (-1) := rfl
@[simp] theorem State.combine_fp (s : State) (v len : Word) : (s.combine v len).fp = s.fp := rfl
@[simp] theorem State.combine_consts (s : State) (v len : Word) : (s.combine v len).consts = s.consts := rfl
@[simp] theorem State.combine_aux (s : State) (v len : Word) : (s.combine v len).aux = s.aux := rfl
@[simp] theorem State.combine_pc (s : State) (v len : Word) : (s.combine v len).pc = s.pc + len := rfl
@[simp] theorem State.combine_carry (s : State) (v len : Word) : (s.combine v len).carry = s.carry := rfl
@[simp] theorem State.combine_field (s : State) (v len : Word) : (s.combine v len).field = s.field := rfl
@[simp] theorem State.combine_ifu (s : State) (v len : Word) : (s.combine v len).ifu = s.ifu := rfl
@[simp] theorem State.combine_mode (s : State) (v len : Word) : (s.combine v len).mode = s.mode := rfl
@[simp] theorem State.combine_trapsEnabled (s : State) (v len : Word) : (s.combine v len).trapsEnabled = s.trapsEnabled := rfl
@[simp] theorem State.combine_version (s : State) (v len : Word) : (s.combine v len).version = s.version := rfl
@[simp] theorem State.combine_procRegs (s : State) (v len : Word) : (s.combine v len).procRegs = s.procRegs := rfl
@[simp] theorem State.combine_mem (s : State) (v len : Word) : (s.combine v len).mem = s.mem := rfl
@[simp] theorem State.combine_admit (s : State) (v len : Word) : (s.combine v len).admitted = s.admitted := rfl
@[simp] theorem State.combine_text (s : State) (v len : Word) : (s.combine v len).text = s.text := rfl
@[simp] theorem State.combine_io (s : State) (v len : Word) : (s.combine v len).io = s.io := rfl

/-! ifuPush -/

@[simp] theorem State.ifuPush_stack (s : State) (ret : Word) : (s.ifuPush ret).stack = s.stack := rfl
@[simp] theorem State.ifuPush_sp (s : State) (ret : Word) : (s.ifuPush ret).sp = s.sp := rfl
@[simp] theorem State.ifuPush_fp (s : State) (ret : Word) : (s.ifuPush ret).fp = s.fp := rfl
@[simp] theorem State.ifuPush_consts (s : State) (ret : Word) : (s.ifuPush ret).consts = s.consts := rfl
@[simp] theorem State.ifuPush_aux (s : State) (ret : Word) : (s.ifuPush ret).aux = s.aux := rfl
@[simp] theorem State.ifuPush_pc (s : State) (ret : Word) : (s.ifuPush ret).pc = s.pc := rfl
@[simp] theorem State.ifuPush_carry (s : State) (ret : Word) : (s.ifuPush ret).carry = s.carry := rfl
@[simp] theorem State.ifuPush_field (s : State) (ret : Word) : (s.ifuPush ret).field = s.field := rfl
@[simp] theorem State.ifuPush_ifu (s : State) (ret : Word) : (s.ifuPush ret).ifu = s.ifuRecord ret :: s.ifu := rfl
@[simp] theorem State.ifuPush_mode (s : State) (ret : Word) : (s.ifuPush ret).mode = s.mode := rfl
@[simp] theorem State.ifuPush_trapsEnabled (s : State) (ret : Word) : (s.ifuPush ret).trapsEnabled = s.trapsEnabled := rfl
@[simp] theorem State.ifuPush_version (s : State) (ret : Word) : (s.ifuPush ret).version = s.version := rfl
@[simp] theorem State.ifuPush_procRegs (s : State) (ret : Word) : (s.ifuPush ret).procRegs = s.procRegs := rfl
@[simp] theorem State.ifuPush_mem (s : State) (ret : Word) : (s.ifuPush ret).mem = s.mem := rfl
@[simp] theorem State.ifuPush_admit (s : State) (ret : Word) : (s.ifuPush ret).admitted = s.admitted := rfl
@[simp] theorem State.ifuPush_text (s : State) (ret : Word) : (s.ifuPush ret).text = s.text := rfl
@[simp] theorem State.ifuPush_io (s : State) (ret : Word) : (s.ifuPush ret).io = s.io := rfl

/-! restore -/

@[simp] theorem State.restore_stack (s : State) (r : IfuRecord) (rest : List IfuRecord) : (s.restore r rest).stack = s.stack := rfl
@[simp] theorem State.restore_sp (s : State) (r : IfuRecord) (rest : List IfuRecord) : (s.restore r rest).sp = s.sp := rfl
@[simp] theorem State.restore_fp (s : State) (r : IfuRecord) (rest : List IfuRecord) : (s.restore r rest).fp = r.fp := rfl
@[simp] theorem State.restore_consts (s : State) (r : IfuRecord) (rest : List IfuRecord) : (s.restore r rest).consts = s.consts := rfl
@[simp] theorem State.restore_aux (s : State) (r : IfuRecord) (rest : List IfuRecord) : (s.restore r rest).aux = s.aux := rfl
@[simp] theorem State.restore_pc (s : State) (r : IfuRecord) (rest : List IfuRecord) : (s.restore r rest).pc = r.pc := rfl
@[simp] theorem State.restore_carry (s : State) (r : IfuRecord) (rest : List IfuRecord) : (s.restore r rest).carry = s.carry := rfl
@[simp] theorem State.restore_field (s : State) (r : IfuRecord) (rest : List IfuRecord) : (s.restore r rest).field = s.field := rfl
@[simp] theorem State.restore_ifu (s : State) (r : IfuRecord) (rest : List IfuRecord) : (s.restore r rest).ifu = rest := rfl
@[simp] theorem State.restore_mode (s : State) (r : IfuRecord) (rest : List IfuRecord) : (s.restore r rest).mode = r.mode := rfl
@[simp] theorem State.restore_trapsEnabled (s : State) (r : IfuRecord) (rest : List IfuRecord) : (s.restore r rest).trapsEnabled = r.trapsEnabled := rfl
@[simp] theorem State.restore_version (s : State) (r : IfuRecord) (rest : List IfuRecord) : (s.restore r rest).version = r.version := rfl
@[simp] theorem State.restore_procRegs (s : State) (r : IfuRecord) (rest : List IfuRecord) : (s.restore r rest).procRegs = s.procRegs := rfl
@[simp] theorem State.restore_mem (s : State) (r : IfuRecord) (rest : List IfuRecord) : (s.restore r rest).mem = s.mem := rfl
@[simp] theorem State.restore_admit (s : State) (r : IfuRecord) (rest : List IfuRecord) : (s.restore r rest).admitted = s.admitted := rfl
@[simp] theorem State.restore_text (s : State) (r : IfuRecord) (rest : List IfuRecord) : (s.restore r rest).text = s.text := rfl
@[simp] theorem State.restore_io (s : State) (r : IfuRecord) (rest : List IfuRecord) : (s.restore r rest).io = s.io := rfl

/-! kernelEntry -/

@[simp] theorem State.kernelEntry_stack (s : State) (saved target : Word) : (s.kernelEntry saved target).stack = s.stack := rfl
@[simp] theorem State.kernelEntry_sp (s : State) (saved target : Word) : (s.kernelEntry saved target).sp = s.sp := rfl
@[simp] theorem State.kernelEntry_fp (s : State) (saved target : Word) : (s.kernelEntry saved target).fp = s.fp := rfl
@[simp] theorem State.kernelEntry_consts (s : State) (saved target : Word) : (s.kernelEntry saved target).consts = s.consts := rfl
@[simp] theorem State.kernelEntry_aux (s : State) (saved target : Word) : (s.kernelEntry saved target).aux = s.aux := rfl
@[simp] theorem State.kernelEntry_pc (s : State) (saved target : Word) : (s.kernelEntry saved target).pc = target := rfl
@[simp] theorem State.kernelEntry_carry (s : State) (saved target : Word) : (s.kernelEntry saved target).carry = s.carry := rfl
@[simp] theorem State.kernelEntry_field (s : State) (saved target : Word) : (s.kernelEntry saved target).field = s.field := rfl
@[simp] theorem State.kernelEntry_ifu (s : State) (saved target : Word) : (s.kernelEntry saved target).ifu = s.ifuRecord saved :: s.ifu := rfl
@[simp] theorem State.kernelEntry_mode (s : State) (saved target : Word) : (s.kernelEntry saved target).mode = .kernel := rfl
@[simp] theorem State.kernelEntry_trapsEnabled (s : State) (saved target : Word) : (s.kernelEntry saved target).trapsEnabled = s.trapsEnabled := rfl
@[simp] theorem State.kernelEntry_version (s : State) (saved target : Word) : (s.kernelEntry saved target).version = s.version := rfl
@[simp] theorem State.kernelEntry_procRegs (s : State) (saved target : Word) : (s.kernelEntry saved target).procRegs = s.procRegs := rfl
@[simp] theorem State.kernelEntry_mem (s : State) (saved target : Word) : (s.kernelEntry saved target).mem = s.mem := rfl
@[simp] theorem State.kernelEntry_admit (s : State) (saved target : Word) : (s.kernelEntry saved target).admitted = s.admitted := rfl
@[simp] theorem State.kernelEntry_text (s : State) (saved target : Word) : (s.kernelEntry saved target).text = s.text := rfl
@[simp] theorem State.kernelEntry_io (s : State) (saved target : Word) : (s.kernelEntry saved target).io = s.io := rfl

/-! trapEntry -/

@[simp] theorem State.trapEntry_stack (s : State) (kind : TrapKind) : (s.trapEntry kind).stack = s.stack := rfl
@[simp] theorem State.trapEntry_sp (s : State) (kind : TrapKind) : (s.trapEntry kind).sp = s.sp := rfl
@[simp] theorem State.trapEntry_fp (s : State) (kind : TrapKind) : (s.trapEntry kind).fp = s.fp := rfl
@[simp] theorem State.trapEntry_consts (s : State) (kind : TrapKind) : (s.trapEntry kind).consts = s.consts := rfl
@[simp] theorem State.trapEntry_aux (s : State) (kind : TrapKind) : (s.trapEntry kind).aux = s.aux := rfl
@[simp] theorem State.trapEntry_pc (s : State) (kind : TrapKind) : (s.trapEntry kind).pc = Config.trapPc kind := rfl
@[simp] theorem State.trapEntry_carry (s : State) (kind : TrapKind) : (s.trapEntry kind).carry = s.carry := rfl
@[simp] theorem State.trapEntry_field (s : State) (kind : TrapKind) : (s.trapEntry kind).field = s.field := rfl
@[simp] theorem State.trapEntry_ifu (s : State) (kind : TrapKind) : (s.trapEntry kind).ifu = s.ifuRecord s.pc :: s.ifu := rfl
@[simp] theorem State.trapEntry_mode (s : State) (kind : TrapKind) : (s.trapEntry kind).mode = .kernel := rfl
@[simp] theorem State.trapEntry_trapsEnabled (s : State) (kind : TrapKind) : (s.trapEntry kind).trapsEnabled = s.trapsEnabled := rfl
@[simp] theorem State.trapEntry_version (s : State) (kind : TrapKind) : (s.trapEntry kind).version = s.version := rfl
@[simp] theorem State.trapEntry_procRegs (s : State) (kind : TrapKind) : (s.trapEntry kind).procRegs = s.procRegs := rfl
@[simp] theorem State.trapEntry_mem (s : State) (kind : TrapKind) : (s.trapEntry kind).mem = s.mem := rfl
@[simp] theorem State.trapEntry_admit (s : State) (kind : TrapKind) : (s.trapEntry kind).admitted = s.admitted := rfl
@[simp] theorem State.trapEntry_text (s : State) (kind : TrapKind) : (s.trapEntry kind).text = s.text := rfl
@[simp] theorem State.trapEntry_io (s : State) (kind : TrapKind) : (s.trapEntry kind).io = s.io := rfl

/-! jumpIf -/

@[simp] theorem State.jumpIf_stack (s : State) (c : Bool) (disp : Byte) (ds : StackIx) : (s.jumpIf c disp ds).stack = s.stack := rfl
@[simp] theorem State.jumpIf_sp (s : State) (c : Bool) (disp : Byte) (ds : StackIx) : (s.jumpIf c disp ds).sp = s.sp + ds := rfl
@[simp] theorem State.jumpIf_fp (s : State) (c : Bool) (disp : Byte) (ds : StackIx) : (s.jumpIf c disp ds).fp = s.fp := rfl
@[simp] theorem State.jumpIf_consts (s : State) (c : Bool) (disp : Byte) (ds : StackIx) : (s.jumpIf c disp ds).consts = s.consts := rfl
@[simp] theorem State.jumpIf_aux (s : State) (c : Bool) (disp : Byte) (ds : StackIx) : (s.jumpIf c disp ds).aux = s.aux := rfl
@[simp] theorem State.jumpIf_pc (s : State) (c : Bool) (disp : Byte) (ds : StackIx) : (s.jumpIf c disp ds).pc = if c then s.pc + sext8 disp else s.pc + 3 := rfl
@[simp] theorem State.jumpIf_carry (s : State) (c : Bool) (disp : Byte) (ds : StackIx) : (s.jumpIf c disp ds).carry = s.carry := rfl
@[simp] theorem State.jumpIf_field (s : State) (c : Bool) (disp : Byte) (ds : StackIx) : (s.jumpIf c disp ds).field = s.field := rfl
@[simp] theorem State.jumpIf_ifu (s : State) (c : Bool) (disp : Byte) (ds : StackIx) : (s.jumpIf c disp ds).ifu = s.ifu := rfl
@[simp] theorem State.jumpIf_mode (s : State) (c : Bool) (disp : Byte) (ds : StackIx) : (s.jumpIf c disp ds).mode = s.mode := rfl
@[simp] theorem State.jumpIf_trapsEnabled (s : State) (c : Bool) (disp : Byte) (ds : StackIx) : (s.jumpIf c disp ds).trapsEnabled = s.trapsEnabled := rfl
@[simp] theorem State.jumpIf_version (s : State) (c : Bool) (disp : Byte) (ds : StackIx) : (s.jumpIf c disp ds).version = s.version := rfl
@[simp] theorem State.jumpIf_procRegs (s : State) (c : Bool) (disp : Byte) (ds : StackIx) : (s.jumpIf c disp ds).procRegs = s.procRegs := rfl
@[simp] theorem State.jumpIf_mem (s : State) (c : Bool) (disp : Byte) (ds : StackIx) : (s.jumpIf c disp ds).mem = s.mem := rfl
@[simp] theorem State.jumpIf_admit (s : State) (c : Bool) (disp : Byte) (ds : StackIx) : (s.jumpIf c disp ds).admitted = s.admitted := rfl
@[simp] theorem State.jumpIf_text (s : State) (c : Bool) (disp : Byte) (ds : StackIx) : (s.jumpIf c disp ds).text = s.text := rfl
@[simp] theorem State.jumpIf_io (s : State) (c : Bool) (disp : Byte) (ds : StackIx) : (s.jumpIf c disp ds).io = s.io := rfl

/-! jumpRD -/

@[simp] theorem State.jumpRD_stack (s : State) (o : RD) (c : Word → Word → Bool) : (s.jumpRD o c).stack = s.stack := rfl
@[simp] theorem State.jumpRD_sp (s : State) (o : RD) (c : Word → Word → Bool) : (s.jumpRD o c).sp = s.sp + (tDs o.t + srcDs o.rb) := rfl
@[simp] theorem State.jumpRD_fp (s : State) (o : RD) (c : Word → Word → Bool) : (s.jumpRD o c).fp = s.fp := rfl
@[simp] theorem State.jumpRD_consts (s : State) (o : RD) (c : Word → Word → Bool) : (s.jumpRD o c).consts = s.consts := rfl
@[simp] theorem State.jumpRD_aux (s : State) (o : RD) (c : Word → Word → Bool) : (s.jumpRD o c).aux = s.aux := rfl
@[simp] theorem State.jumpRD_pc (s : State) (o : RD) (c : Word → Word → Bool) : (s.jumpRD o c).pc = if c (s.readT o.t) (s.read o.file o.rb) then s.pc + sext8 o.disp else s.pc + 3 := rfl
@[simp] theorem State.jumpRD_carry (s : State) (o : RD) (c : Word → Word → Bool) : (s.jumpRD o c).carry = s.carry := rfl
@[simp] theorem State.jumpRD_field (s : State) (o : RD) (c : Word → Word → Bool) : (s.jumpRD o c).field = s.field := rfl
@[simp] theorem State.jumpRD_ifu (s : State) (o : RD) (c : Word → Word → Bool) : (s.jumpRD o c).ifu = s.ifu := rfl
@[simp] theorem State.jumpRD_mode (s : State) (o : RD) (c : Word → Word → Bool) : (s.jumpRD o c).mode = s.mode := rfl
@[simp] theorem State.jumpRD_trapsEnabled (s : State) (o : RD) (c : Word → Word → Bool) : (s.jumpRD o c).trapsEnabled = s.trapsEnabled := rfl
@[simp] theorem State.jumpRD_version (s : State) (o : RD) (c : Word → Word → Bool) : (s.jumpRD o c).version = s.version := rfl
@[simp] theorem State.jumpRD_procRegs (s : State) (o : RD) (c : Word → Word → Bool) : (s.jumpRD o c).procRegs = s.procRegs := rfl
@[simp] theorem State.jumpRD_mem (s : State) (o : RD) (c : Word → Word → Bool) : (s.jumpRD o c).mem = s.mem := rfl
@[simp] theorem State.jumpRD_admit (s : State) (o : RD) (c : Word → Word → Bool) : (s.jumpRD o c).admitted = s.admitted := rfl
@[simp] theorem State.jumpRD_text (s : State) (o : RD) (c : Word → Word → Bool) : (s.jumpRD o c).text = s.text := rfl
@[simp] theorem State.jumpRD_io (s : State) (o : RD) (c : Word → Word → Bool) : (s.jumpRD o c).io = s.io := rfl

/-! setReg -/

@[simp] theorem State.setReg_sp (s : State) (file : RegFile) (n : BitVec 4) (v : Word) : (s.setReg file n v).sp = s.sp := by cases file <;> rfl
@[simp] theorem State.setReg_fp (s : State) (file : RegFile) (n : BitVec 4) (v : Word) : (s.setReg file n v).fp = s.fp := by cases file <;> rfl
@[simp] theorem State.setReg_consts (s : State) (file : RegFile) (n : BitVec 4) (v : Word) : (s.setReg file n v).consts = s.consts := by cases file <;> rfl
@[simp] theorem State.setReg_pc (s : State) (file : RegFile) (n : BitVec 4) (v : Word) : (s.setReg file n v).pc = s.pc := by cases file <;> rfl
@[simp] theorem State.setReg_carry (s : State) (file : RegFile) (n : BitVec 4) (v : Word) : (s.setReg file n v).carry = s.carry := by cases file <;> rfl
@[simp] theorem State.setReg_field (s : State) (file : RegFile) (n : BitVec 4) (v : Word) : (s.setReg file n v).field = s.field := by cases file <;> rfl
@[simp] theorem State.setReg_ifu (s : State) (file : RegFile) (n : BitVec 4) (v : Word) : (s.setReg file n v).ifu = s.ifu := by cases file <;> rfl
@[simp] theorem State.setReg_mode (s : State) (file : RegFile) (n : BitVec 4) (v : Word) : (s.setReg file n v).mode = s.mode := by cases file <;> rfl
@[simp] theorem State.setReg_trapsEnabled (s : State) (file : RegFile) (n : BitVec 4) (v : Word) : (s.setReg file n v).trapsEnabled = s.trapsEnabled := by cases file <;> rfl
@[simp] theorem State.setReg_version (s : State) (file : RegFile) (n : BitVec 4) (v : Word) : (s.setReg file n v).version = s.version := by cases file <;> rfl
@[simp] theorem State.setReg_procRegs (s : State) (file : RegFile) (n : BitVec 4) (v : Word) : (s.setReg file n v).procRegs = s.procRegs := by cases file <;> rfl
@[simp] theorem State.setReg_mem (s : State) (file : RegFile) (n : BitVec 4) (v : Word) : (s.setReg file n v).mem = s.mem := by cases file <;> rfl
@[simp] theorem State.setReg_admit (s : State) (file : RegFile) (n : BitVec 4) (v : Word) : (s.setReg file n v).admitted = s.admitted := by cases file <;> rfl
@[simp] theorem State.setReg_text (s : State) (file : RegFile) (n : BitVec 4) (v : Word) : (s.setReg file n v).text = s.text := by cases file <;> rfl
@[simp] theorem State.setReg_io (s : State) (file : RegFile) (n : BitVec 4) (v : Word) : (s.setReg file n v).io = s.io := by cases file <;> rfl

/-! write -/

@[simp] theorem State.write_sp (s : State) (file : RegFile) (d : Dst) (v : Word) : (s.write file d v).sp = s.sp := by cases d <;> cases file <;> rfl
@[simp] theorem State.write_fp (s : State) (file : RegFile) (d : Dst) (v : Word) : (s.write file d v).fp = s.fp := by cases d <;> cases file <;> rfl
@[simp] theorem State.write_pc (s : State) (file : RegFile) (d : Dst) (v : Word) : (s.write file d v).pc = s.pc := by cases d <;> cases file <;> rfl
@[simp] theorem State.write_carry (s : State) (file : RegFile) (d : Dst) (v : Word) : (s.write file d v).carry = s.carry := by cases d <;> cases file <;> rfl
@[simp] theorem State.write_field (s : State) (file : RegFile) (d : Dst) (v : Word) : (s.write file d v).field = s.field := by cases d <;> cases file <;> rfl
@[simp] theorem State.write_ifu (s : State) (file : RegFile) (d : Dst) (v : Word) : (s.write file d v).ifu = s.ifu := by cases d <;> cases file <;> rfl
@[simp] theorem State.write_mode (s : State) (file : RegFile) (d : Dst) (v : Word) : (s.write file d v).mode = s.mode := by cases d <;> cases file <;> rfl
@[simp] theorem State.write_trapsEnabled (s : State) (file : RegFile) (d : Dst) (v : Word) : (s.write file d v).trapsEnabled = s.trapsEnabled := by cases d <;> cases file <;> rfl
@[simp] theorem State.write_version (s : State) (file : RegFile) (d : Dst) (v : Word) : (s.write file d v).version = s.version := by cases d <;> cases file <;> rfl
@[simp] theorem State.write_procRegs (s : State) (file : RegFile) (d : Dst) (v : Word) : (s.write file d v).procRegs = s.procRegs := by cases d <;> cases file <;> rfl
@[simp] theorem State.write_mem (s : State) (file : RegFile) (d : Dst) (v : Word) : (s.write file d v).mem = s.mem := by cases d <;> cases file <;> rfl
@[simp] theorem State.write_admit (s : State) (file : RegFile) (d : Dst) (v : Word) : (s.write file d v).admitted = s.admitted := by cases d <;> cases file <;> rfl
@[simp] theorem State.write_text (s : State) (file : RegFile) (d : Dst) (v : Word) : (s.write file d v).text = s.text := by cases d <;> cases file <;> rfl
@[simp] theorem State.write_io (s : State) (file : RegFile) (d : Dst) (v : Word) : (s.write file d v).io = s.io := by cases d <;> cases file <;> rfl

/-! finishRRR -/

@[simp] theorem State.finishRRR_stack (s : State) (o : RRR) (v : Word) : (s.finishRRR o v).stack = (s.write o.file o.rc v).stack := by simp [State.finishRRR]
@[simp] theorem State.finishRRR_sp (s : State) (o : RRR) (v : Word) : (s.finishRRR o v).sp = s.sp + (srcDs o.ra + srcDs o.rb + dstDs o.rc) := by simp [State.finishRRR]
@[simp] theorem State.finishRRR_fp (s : State) (o : RRR) (v : Word) : (s.finishRRR o v).fp = s.fp := by simp [State.finishRRR]
@[simp] theorem State.finishRRR_consts (s : State) (o : RRR) (v : Word) : (s.finishRRR o v).consts = (s.write o.file o.rc v).consts := by simp [State.finishRRR]
@[simp] theorem State.finishRRR_aux (s : State) (o : RRR) (v : Word) : (s.finishRRR o v).aux = (s.write o.file o.rc v).aux := by simp [State.finishRRR]
@[simp] theorem State.finishRRR_pc (s : State) (o : RRR) (v : Word) : (s.finishRRR o v).pc = s.pc + 3 := by simp [State.finishRRR]
@[simp] theorem State.finishRRR_carry (s : State) (o : RRR) (v : Word) : (s.finishRRR o v).carry = s.carry := by simp [State.finishRRR]
@[simp] theorem State.finishRRR_field (s : State) (o : RRR) (v : Word) : (s.finishRRR o v).field = s.field := by simp [State.finishRRR]
@[simp] theorem State.finishRRR_ifu (s : State) (o : RRR) (v : Word) : (s.finishRRR o v).ifu = s.ifu := by simp [State.finishRRR]
@[simp] theorem State.finishRRR_mode (s : State) (o : RRR) (v : Word) : (s.finishRRR o v).mode = s.mode := by simp [State.finishRRR]
@[simp] theorem State.finishRRR_trapsEnabled (s : State) (o : RRR) (v : Word) : (s.finishRRR o v).trapsEnabled = s.trapsEnabled := by simp [State.finishRRR]
@[simp] theorem State.finishRRR_version (s : State) (o : RRR) (v : Word) : (s.finishRRR o v).version = s.version := by simp [State.finishRRR]
@[simp] theorem State.finishRRR_procRegs (s : State) (o : RRR) (v : Word) : (s.finishRRR o v).procRegs = s.procRegs := by simp [State.finishRRR]
@[simp] theorem State.finishRRR_mem (s : State) (o : RRR) (v : Word) : (s.finishRRR o v).mem = s.mem := by simp [State.finishRRR]
@[simp] theorem State.finishRRR_admit (s : State) (o : RRR) (v : Word) : (s.finishRRR o v).admitted = s.admitted := by simp [State.finishRRR]
@[simp] theorem State.finishRRR_text (s : State) (o : RRR) (v : Word) : (s.finishRRR o v).text = s.text := by simp [State.finishRRR]
@[simp] theorem State.finishRRR_io (s : State) (o : RRR) (v : Word) : (s.finishRRR o v).io = s.io := by simp [State.finishRRR]

/-! finishQR -/

@[simp] theorem State.finishQR_stack (s : State) (o : QR) (v : Word) : (s.finishQR o v).stack = s.stack.set (s.qDest o.q).toNat v (s.qDest o.q).isLt := rfl
@[simp] theorem State.finishQR_sp (s : State) (o : QR) (v : Word) : (s.finishQR o v).sp = s.sp + (qDs o.q + srcDs o.rb) := rfl
@[simp] theorem State.finishQR_fp (s : State) (o : QR) (v : Word) : (s.finishQR o v).fp = s.fp := rfl
@[simp] theorem State.finishQR_consts (s : State) (o : QR) (v : Word) : (s.finishQR o v).consts = s.consts := rfl
@[simp] theorem State.finishQR_aux (s : State) (o : QR) (v : Word) : (s.finishQR o v).aux = s.aux := rfl
@[simp] theorem State.finishQR_pc (s : State) (o : QR) (v : Word) : (s.finishQR o v).pc = s.pc + 2 := rfl
@[simp] theorem State.finishQR_carry (s : State) (o : QR) (v : Word) : (s.finishQR o v).carry = s.carry := rfl
@[simp] theorem State.finishQR_field (s : State) (o : QR) (v : Word) : (s.finishQR o v).field = s.field := rfl
@[simp] theorem State.finishQR_ifu (s : State) (o : QR) (v : Word) : (s.finishQR o v).ifu = s.ifu := rfl
@[simp] theorem State.finishQR_mode (s : State) (o : QR) (v : Word) : (s.finishQR o v).mode = s.mode := rfl
@[simp] theorem State.finishQR_trapsEnabled (s : State) (o : QR) (v : Word) : (s.finishQR o v).trapsEnabled = s.trapsEnabled := rfl
@[simp] theorem State.finishQR_version (s : State) (o : QR) (v : Word) : (s.finishQR o v).version = s.version := rfl
@[simp] theorem State.finishQR_procRegs (s : State) (o : QR) (v : Word) : (s.finishQR o v).procRegs = s.procRegs := rfl
@[simp] theorem State.finishQR_mem (s : State) (o : QR) (v : Word) : (s.finishQR o v).mem = s.mem := rfl
@[simp] theorem State.finishQR_admit (s : State) (o : QR) (v : Word) : (s.finishQR o v).admitted = s.admitted := rfl
@[simp] theorem State.finishQR_text (s : State) (o : QR) (v : Word) : (s.finishQR o v).text = s.text := rfl
@[simp] theorem State.finishQR_io (s : State) (o : QR) (v : Word) : (s.finishQR o v).io = s.io := rfl

/-! dispatch -/

@[simp] theorem State.dispatch_stack (s : State) (addr data : Word) (c : Byte) (dst : StackIx) : (s.dispatch addr data c dst).stack = if Config.isRead c then s.stack.set dst.toNat (Config.ioRead s.io addr c) dst.isLt else s.stack := by simp only [State.dispatch]; split <;> split <;> rfl
@[simp] theorem State.dispatch_sp (s : State) (addr data : Word) (c : Byte) (dst : StackIx) : (s.dispatch addr data c dst).sp = s.sp := by simp only [State.dispatch]; split <;> split <;> rfl
@[simp] theorem State.dispatch_fp (s : State) (addr data : Word) (c : Byte) (dst : StackIx) : (s.dispatch addr data c dst).fp = s.fp := by simp only [State.dispatch]; split <;> split <;> rfl
@[simp] theorem State.dispatch_consts (s : State) (addr data : Word) (c : Byte) (dst : StackIx) : (s.dispatch addr data c dst).consts = s.consts := by simp only [State.dispatch]; split <;> split <;> rfl
@[simp] theorem State.dispatch_aux (s : State) (addr data : Word) (c : Byte) (dst : StackIx) : (s.dispatch addr data c dst).aux = s.aux := by simp only [State.dispatch]; split <;> split <;> rfl
@[simp] theorem State.dispatch_pc (s : State) (addr data : Word) (c : Byte) (dst : StackIx) : (s.dispatch addr data c dst).pc = s.pc := by simp only [State.dispatch]; split <;> split <;> rfl
@[simp] theorem State.dispatch_carry (s : State) (addr data : Word) (c : Byte) (dst : StackIx) : (s.dispatch addr data c dst).carry = s.carry := by simp only [State.dispatch]; split <;> split <;> rfl
@[simp] theorem State.dispatch_field (s : State) (addr data : Word) (c : Byte) (dst : StackIx) : (s.dispatch addr data c dst).field = s.field := by simp only [State.dispatch]; split <;> split <;> rfl
@[simp] theorem State.dispatch_ifu (s : State) (addr data : Word) (c : Byte) (dst : StackIx) : (s.dispatch addr data c dst).ifu = s.ifu := by simp only [State.dispatch]; split <;> split <;> rfl
@[simp] theorem State.dispatch_mode (s : State) (addr data : Word) (c : Byte) (dst : StackIx) : (s.dispatch addr data c dst).mode = s.mode := by simp only [State.dispatch]; split <;> split <;> rfl
@[simp] theorem State.dispatch_trapsEnabled (s : State) (addr data : Word) (c : Byte) (dst : StackIx) : (s.dispatch addr data c dst).trapsEnabled = s.trapsEnabled := by simp only [State.dispatch]; split <;> split <;> rfl
@[simp] theorem State.dispatch_version (s : State) (addr data : Word) (c : Byte) (dst : StackIx) : (s.dispatch addr data c dst).version = s.version := by simp only [State.dispatch]; split <;> split <;> rfl
@[simp] theorem State.dispatch_procRegs (s : State) (addr data : Word) (c : Byte) (dst : StackIx) : (s.dispatch addr data c dst).procRegs = s.procRegs := by simp only [State.dispatch]; split <;> split <;> rfl
@[simp] theorem State.dispatch_mem (s : State) (addr data : Word) (c : Byte) (dst : StackIx) : (s.dispatch addr data c dst).mem = s.mem := by simp only [State.dispatch]; split <;> split <;> rfl
@[simp] theorem State.dispatch_admit (s : State) (addr data : Word) (c : Byte) (dst : StackIx) : (s.dispatch addr data c dst).admitted = s.admitted := by simp only [State.dispatch]; split <;> split <;> rfl
@[simp] theorem State.dispatch_text (s : State) (addr data : Word) (c : Byte) (dst : StackIx) : (s.dispatch addr data c dst).text = s.text := by simp only [State.dispatch]; split <;> split <;> rfl

/-! Reads after writes -/

theorem State.stackAt_setStack (s : State) (i j : StackIx) (v : Word) :
    (s.setStack i v).stackAt j = if i = j then v else s.stackAt j := by
  simp only [State.stackAt, State.setStack, Vector.getElem_set, BitVec.toNat_inj]

@[simp] theorem State.stackAt_setStack_self (s : State) (i : StackIx) (v : Word) : (s.setStack i v).stackAt i = v := by
  simp [State.stackAt_setStack]

theorem State.stackAt_setStack_ne (s : State) {i j : StackIx} (h : i ≠ j) (v : Word) :
    (s.setStack i v).stackAt j = s.stackAt j := by
  simp [State.stackAt_setStack, h]

theorem State.constAt_setConst (s : State) (i j : Fin 12) (v : Word) :
    (s.setConst i v).constAt j = if i = j then v else s.constAt j := by
  simp only [State.constAt, State.setConst, Vector.getElem_set, Fin.ext_iff]

theorem State.auxAt_setAux (s : State) (i j : BitVec 4) (v : Word) :
    (s.setAux i v).auxAt j = if i = j then v else s.auxAt j := by
  simp only [State.auxAt, State.setAux, Vector.getElem_set, BitVec.toNat_inj]

theorem State.procAt_setProc (s : State) (i j : Byte) (v : Word) :
    (s.setProc i v).procAt j = if i = j then v else s.procAt j := by
  simp only [State.procAt, State.setProc, Config.procRead, Config.procWrite, Vector.getElem_set, BitVec.toNat_inj]

@[simp] theorem State.constAt_setStack (s : State) (i : StackIx) (v : Word) (j : Fin 12) : (s.setStack i v).constAt j = s.constAt j := rfl
@[simp] theorem State.auxAt_setStack (s : State) (i : StackIx) (v : Word) (j : BitVec 4) : (s.setStack i v).auxAt j = s.auxAt j := rfl
@[simp] theorem State.procAt_setStack (s : State) (i : StackIx) (v : Word) (j : Byte) : (s.setStack i v).procAt j = s.procAt j := rfl
@[simp] theorem State.constAt_setLocal (s : State) (n : BitVec 4) (v : Word) (j : Fin 12) : (s.setLocal n v).constAt j = s.constAt j := rfl
@[simp] theorem State.auxAt_setLocal (s : State) (n : BitVec 4) (v : Word) (j : BitVec 4) : (s.setLocal n v).auxAt j = s.auxAt j := rfl
@[simp] theorem State.procAt_setLocal (s : State) (n : BitVec 4) (v : Word) (j : Byte) : (s.setLocal n v).procAt j = s.procAt j := rfl
@[simp] theorem State.stackAt_setConst (s : State) (m : Fin 12) (v : Word) (j : StackIx) : (s.setConst m v).stackAt j = s.stackAt j := rfl
@[simp] theorem State.auxAt_setConst (s : State) (m : Fin 12) (v : Word) (j : BitVec 4) : (s.setConst m v).auxAt j = s.auxAt j := rfl
@[simp] theorem State.procAt_setConst (s : State) (m : Fin 12) (v : Word) (j : Byte) : (s.setConst m v).procAt j = s.procAt j := rfl
@[simp] theorem State.stackAt_setAux (s : State) (n : BitVec 4) (v : Word) (j : StackIx) : (s.setAux n v).stackAt j = s.stackAt j := rfl
@[simp] theorem State.constAt_setAux (s : State) (n : BitVec 4) (v : Word) (j : Fin 12) : (s.setAux n v).constAt j = s.constAt j := rfl
@[simp] theorem State.procAt_setAux (s : State) (n : BitVec 4) (v : Word) (j : Byte) : (s.setAux n v).procAt j = s.procAt j := rfl
@[simp] theorem State.stackAt_setProc (s : State) (a : Byte) (v : Word) (j : StackIx) : (s.setProc a v).stackAt j = s.stackAt j := rfl
@[simp] theorem State.constAt_setProc (s : State) (a : Byte) (v : Word) (j : Fin 12) : (s.setProc a v).constAt j = s.constAt j := rfl
@[simp] theorem State.auxAt_setProc (s : State) (a : Byte) (v : Word) (j : BitVec 4) : (s.setProc a v).auxAt j = s.auxAt j := rfl
@[simp] theorem State.stackAt_setCarry (s : State) (c : Bool) (j : StackIx) : (s.setCarry c).stackAt j = s.stackAt j := rfl
@[simp] theorem State.constAt_setCarry (s : State) (c : Bool) (j : Fin 12) : (s.setCarry c).constAt j = s.constAt j := rfl
@[simp] theorem State.auxAt_setCarry (s : State) (c : Bool) (j : BitVec 4) : (s.setCarry c).auxAt j = s.auxAt j := rfl
@[simp] theorem State.procAt_setCarry (s : State) (c : Bool) (j : Byte) : (s.setCarry c).procAt j = s.procAt j := rfl
@[simp] theorem State.stackAt_advance (s : State) (len : Word) (ds : StackIx) (j : StackIx) : (s.advance len ds).stackAt j = s.stackAt j := rfl
@[simp] theorem State.constAt_advance (s : State) (len : Word) (ds : StackIx) (j : Fin 12) : (s.advance len ds).constAt j = s.constAt j := rfl
@[simp] theorem State.auxAt_advance (s : State) (len : Word) (ds : StackIx) (j : BitVec 4) : (s.advance len ds).auxAt j = s.auxAt j := rfl
@[simp] theorem State.procAt_advance (s : State) (len : Word) (ds : StackIx) (j : Byte) : (s.advance len ds).procAt j = s.procAt j := rfl
@[simp] theorem State.constAt_push (s : State) (v len : Word) (j : Fin 12) : (s.push v len).constAt j = s.constAt j := rfl
@[simp] theorem State.auxAt_push (s : State) (v len : Word) (j : BitVec 4) : (s.push v len).auxAt j = s.auxAt j := rfl
@[simp] theorem State.procAt_push (s : State) (v len : Word) (j : Byte) : (s.push v len).procAt j = s.procAt j := rfl
@[simp] theorem State.constAt_replaceTop (s : State) (v len : Word) (j : Fin 12) : (s.replaceTop v len).constAt j = s.constAt j := rfl
@[simp] theorem State.auxAt_replaceTop (s : State) (v len : Word) (j : BitVec 4) : (s.replaceTop v len).auxAt j = s.auxAt j := rfl
@[simp] theorem State.procAt_replaceTop (s : State) (v len : Word) (j : Byte) : (s.replaceTop v len).procAt j = s.procAt j := rfl
@[simp] theorem State.constAt_combine (s : State) (v len : Word) (j : Fin 12) : (s.combine v len).constAt j = s.constAt j := rfl
@[simp] theorem State.auxAt_combine (s : State) (v len : Word) (j : BitVec 4) : (s.combine v len).auxAt j = s.auxAt j := rfl
@[simp] theorem State.procAt_combine (s : State) (v len : Word) (j : Byte) : (s.combine v len).procAt j = s.procAt j := rfl
@[simp] theorem State.stackAt_ifuPush (s : State) (ret : Word) (j : StackIx) : (s.ifuPush ret).stackAt j = s.stackAt j := rfl
@[simp] theorem State.constAt_ifuPush (s : State) (ret : Word) (j : Fin 12) : (s.ifuPush ret).constAt j = s.constAt j := rfl
@[simp] theorem State.auxAt_ifuPush (s : State) (ret : Word) (j : BitVec 4) : (s.ifuPush ret).auxAt j = s.auxAt j := rfl
@[simp] theorem State.procAt_ifuPush (s : State) (ret : Word) (j : Byte) : (s.ifuPush ret).procAt j = s.procAt j := rfl
@[simp] theorem State.stackAt_restore (s : State) (r : IfuRecord) (rest : List IfuRecord) (j : StackIx) : (s.restore r rest).stackAt j = s.stackAt j := rfl
@[simp] theorem State.constAt_restore (s : State) (r : IfuRecord) (rest : List IfuRecord) (j : Fin 12) : (s.restore r rest).constAt j = s.constAt j := rfl
@[simp] theorem State.auxAt_restore (s : State) (r : IfuRecord) (rest : List IfuRecord) (j : BitVec 4) : (s.restore r rest).auxAt j = s.auxAt j := rfl
@[simp] theorem State.procAt_restore (s : State) (r : IfuRecord) (rest : List IfuRecord) (j : Byte) : (s.restore r rest).procAt j = s.procAt j := rfl
@[simp] theorem State.stackAt_kernelEntry (s : State) (saved target : Word) (j : StackIx) : (s.kernelEntry saved target).stackAt j = s.stackAt j := rfl
@[simp] theorem State.constAt_kernelEntry (s : State) (saved target : Word) (j : Fin 12) : (s.kernelEntry saved target).constAt j = s.constAt j := rfl
@[simp] theorem State.auxAt_kernelEntry (s : State) (saved target : Word) (j : BitVec 4) : (s.kernelEntry saved target).auxAt j = s.auxAt j := rfl
@[simp] theorem State.procAt_kernelEntry (s : State) (saved target : Word) (j : Byte) : (s.kernelEntry saved target).procAt j = s.procAt j := rfl
@[simp] theorem State.stackAt_trapEntry (s : State) (kind : TrapKind) (j : StackIx) : (s.trapEntry kind).stackAt j = s.stackAt j := rfl
@[simp] theorem State.constAt_trapEntry (s : State) (kind : TrapKind) (j : Fin 12) : (s.trapEntry kind).constAt j = s.constAt j := rfl
@[simp] theorem State.auxAt_trapEntry (s : State) (kind : TrapKind) (j : BitVec 4) : (s.trapEntry kind).auxAt j = s.auxAt j := rfl
@[simp] theorem State.procAt_trapEntry (s : State) (kind : TrapKind) (j : Byte) : (s.trapEntry kind).procAt j = s.procAt j := rfl
@[simp] theorem State.stackAt_jumpIf (s : State) (c : Bool) (disp : Byte) (ds : StackIx) (j : StackIx) : (s.jumpIf c disp ds).stackAt j = s.stackAt j := rfl
@[simp] theorem State.constAt_jumpIf (s : State) (c : Bool) (disp : Byte) (ds : StackIx) (j : Fin 12) : (s.jumpIf c disp ds).constAt j = s.constAt j := rfl
@[simp] theorem State.auxAt_jumpIf (s : State) (c : Bool) (disp : Byte) (ds : StackIx) (j : BitVec 4) : (s.jumpIf c disp ds).auxAt j = s.auxAt j := rfl
@[simp] theorem State.procAt_jumpIf (s : State) (c : Bool) (disp : Byte) (ds : StackIx) (j : Byte) : (s.jumpIf c disp ds).procAt j = s.procAt j := rfl
@[simp] theorem State.stackAt_jumpRD (s : State) (o : RD) (c : Word → Word → Bool) (j : StackIx) : (s.jumpRD o c).stackAt j = s.stackAt j := rfl
@[simp] theorem State.constAt_jumpRD (s : State) (o : RD) (c : Word → Word → Bool) (j : Fin 12) : (s.jumpRD o c).constAt j = s.constAt j := rfl
@[simp] theorem State.auxAt_jumpRD (s : State) (o : RD) (c : Word → Word → Bool) (j : BitVec 4) : (s.jumpRD o c).auxAt j = s.auxAt j := rfl
@[simp] theorem State.procAt_jumpRD (s : State) (o : RD) (c : Word → Word → Bool) (j : Byte) : (s.jumpRD o c).procAt j = s.procAt j := rfl

/-- The end of an instruction: what RRR instructions leave in Stack, Constants and AuxRegs is what the write of Rc leaves. -/
theorem State.stackAt_finishRRR (s : State) (o : RRR) (v : Word) (j : StackIx) :
    (s.finishRRR o v).stackAt j = (s.write o.file o.rc v).stackAt j := rfl

theorem State.constAt_finishRRR (s : State) (o : RRR) (v : Word) (j : Fin 12) :
    (s.finishRRR o v).constAt j = (s.write o.file o.rc v).constAt j := rfl

theorem State.auxAt_finishRRR (s : State) (o : RRR) (v : Word) (j : BitVec 4) :
    (s.finishRRR o v).auxAt j = (s.write o.file o.rc v).auxAt j := rfl

end Sys2Proof.Machine
end

