-- ==== Sys2Proof/Laws/Ops.lean ====
section
/-! SUPPORT. What each shared operation can do, said once. -/

namespace Sys2Proof.Machine

theorem State.memRead_ok {s : State} {wa w : Word} (h : s.memRead wa = .ok w) : s.admits wa = true ∧ s.mem.word wa = some w := by
  unfold State.memRead at h
  split at h
  · split at h
    · cases h; exact ⟨‹_›, ‹_›⟩
    · cases h
  · cases h

theorem State.memRead_of {s : State} {wa w : Word} (ha : s.admits wa = true) (hw : s.mem.word wa = some w) :
    s.memRead wa = .ok w := by
  simp [State.memRead, ha, hw]

/-- A store that succeeds wrote one admitted word that holds no program text, and nothing else. -/
theorem State.memWrite_ok {s t : State} {wa v : Word} (h : s.memWrite wa v = .ok t) :
    s.admits wa = true ∧ s.holdsText wa = false ∧ t = { s with mem := s.mem.putWord wa v } := by
  unfold State.memWrite at h
  split at h
  · next ha =>
    split at h
    · cases h
    · next ht => cases h; exact ⟨ha, by simpa using ht, rfl⟩
  · cases h

theorem State.memWrite_of {s : State} {wa : Word} (v : Word) (ha : s.admits wa = true) (ht : s.holdsText wa = false) :
    s.memWrite wa v = .ok { s with mem := s.mem.putWord wa v } := by
  simp [State.memWrite, ha, ht]

/-- A conditional store that answers read the word, and either stored `new` over it or left the state alone. -/
theorem State.cStore_ok {s t : State} {ptr new old r : Word} (h : s.cStore ptr new old = .ok (r, t)) :
    s.memRead ptr = .ok r ∧ ((r = old ∧ s.memWrite ptr new = .ok t) ∨ (r ≠ old ∧ t = s)) := by
  unfold State.cStore at h
  split at h
  · cases h
  · next w hw =>
    by_cases e : w = old
    · simp only [Config.cStore, e, ↓reduceIte] at h
      split at h
      · cases h
      · cases h; exact ⟨e ▸ hw, .inl ⟨rfl, ‹_›⟩⟩
    · simp only [Config.cStore, e, ↓reduceIte] at h
      cases h; exact ⟨hw, .inr ⟨e, rfl⟩⟩

theorem State.load_next {s t : State} {ea : Word} {k : Word → State} (h : s.load ea k = .next t) :
    ∃ w, s.admits ea = true ∧ s.mem.word ea = some w ∧ t = k w := by
  unfold State.load at h
  split at h
  · cases h
  · next w hw => cases h; exact ⟨w, (State.memRead_ok hw).1, (State.memRead_ok hw).2, rfl⟩

theorem State.load_of {s : State} {ea w : Word} (k : Word → State) (ha : s.admits ea = true) (hw : s.mem.word ea = some w) :
    s.load ea k = .next (k w) := by
  simp [State.load, State.memRead_of ha hw]

theorem State.store_next {s t : State} {ea v len : Word} {ds : StackIx} (h : s.store ea v len ds = .next t) :
    s.admits ea = true ∧ s.holdsText ea = false ∧ t = { s with mem := s.mem.putWord ea v }.advance len ds := by
  unfold State.store at h
  split at h
  · cases h
  · next u hu =>
    obtain ⟨ha, ht, rfl⟩ := State.memWrite_ok hu
    cases h
    exact ⟨ha, ht, rfl⟩

theorem State.store_of {s : State} {ea : Word} (v len : Word) (ds : StackIx) (ha : s.admits ea = true)
    (ht : s.holdsText ea = false) : s.store ea v len ds = .next ({ s with mem := s.mem.putWord ea v }.advance len ds) := by
  simp [State.store, State.memWrite_of v ha ht]

/-- The IFU stack is full exactly when it holds IFU_STACK_DEPTH records or more (R150). -/
theorem ifuFull_iff (l : List IfuRecord) : ifuFull l = true ↔ Config.ifuStackDepth ≤ l.length := by
  cases l <;> simp [ifuFull, Config.ifuStackDepth]

theorem ifuFull_eq_false_iff (l : List IfuRecord) : ifuFull l = false ↔ l.length < Config.ifuStackDepth := by
  rw [← Bool.not_eq_true, ifuFull_iff]; omega

theorem State.ifuReturn_next {s t : State} (h : s.ifuReturn = .next t) :
    ∃ r rest, s.ifu = r :: rest ∧ t = s.restore r rest := by
  unfold State.ifuReturn at h
  split at h
  · cases h
  · next r rest hr => cases h; exact ⟨r, rest, hr, rfl⟩

theorem State.call_next {s t : State} {len target : Word} {ds : StackIx} (h : s.call len target ds = .next t) :
    ifuFull s.ifu = false ∧ t = { s.ifuPush (s.pc + len) with pc := target, sp := s.sp + ds } := by
  unfold State.call at h
  split at h
  · cases h
  · next hf => cases h; exact ⟨by simpa using hf, rfl⟩

theorem State.call_of {s : State} (len target : Word) (ds : StackIx) (h : ifuFull s.ifu = false) :
    s.call len target ds = .next { s.ifuPush (s.pc + len) with pc := target, sp := s.sp + ds } := by
  simp [State.call, h]

/-- A trap test that answers a next state: the instruction's own end, or the trap entered on an IFU stack with room. -/
theorem State.trapIf_next {s t done : State} {kind : TrapKind} {c : Bool} (h : s.trapIf kind c done = .next t) :
    (c = false ∧ t = done) ∨ (c = true ∧ ifuFull s.ifu = false ∧ t = s.trapEntry kind) := by
  unfold State.trapIf at h
  cases c <;> cases hf : ifuFull s.ifu <;> simp_all

@[simp] theorem State.trapIf_false (s done : State) (kind : TrapKind) : s.trapIf kind false done = .next done := by
  simp [State.trapIf]

theorem State.trapIf_true {s : State} (done : State) (kind : TrapKind) (h : ifuFull s.ifu = false) :
    s.trapIf kind true done = .next (s.trapEntry kind) := by
  simp [State.trapIf, h]

theorem State.trapIf_full {s : State} (done : State) (kind : TrapKind) (h : ifuFull s.ifu = true) :
    s.trapIf kind true done = .fault .ifuOverflow := by
  simp [State.trapIf, h]

/-- `textCell` and `holdsText` agree: a word without program text has no text cell. -/
theorem State.holdsText_false {s : State} {wa : Word} (h : s.holdsText wa = false) (k : Nat) (hk : k < 4)
    (hlt : dataCell wa k < 2 ^ 32) : s.inText (BitVec.ofNat 32 (dataCell wa k)) = false := by
  unfold State.holdsText at h
  rw [List.any_eq_false] at h
  have hm : k ∈ [0, 1, 2, 3] := by simp only [List.mem_cons, List.not_mem_nil, or_false]; omega
  have := h k hm
  rw [decide_eq_true hlt, Bool.true_and, Bool.not_eq_true] at this
  exact this

end Sys2Proof.Machine
end

