-- ==== Sys2Proof/Laws/Operands.lean ====
section
/-! SUPPORT. The operand forms, the descriptor, the overflow test and the decoding of operand fields. -/

namespace Sys2Proof.Machine

/-- The descriptor of a literal exists exactly where the literal is well formed (R130). -/
theorem fieldDesc_eq_none_iff (ab : Half) : fieldDesc ab = none ↔ descriptorOk ab = false := by
  simp only [fieldDesc, descriptorOk]
  split
  · next h => simp [h.1, h.2.1, h.2.2, -BitVec.extractLsb'_toNat]
  · next h => simpa [and_assoc, -BitVec.extractLsb'_toNat] using h

theorem withDescriptor_next {ab : Half} {k : FieldDesc → State} {t : State} (h : withDescriptor ab k = .next t) :
    ∃ fd, fieldDesc ab = some fd ∧ t = k fd := by
  unfold withDescriptor at h
  split at h
  · cases h
  · next fd hfd => cases h; exact ⟨fd, hfd, rfl⟩

/-- Overflow is the exact result outside the signed 32-bit range (R101). -/
theorem overflowKind_eq_false_iff (t : Int) : Config.overflowKind t = false ↔ -2 ^ 31 ≤ t ∧ t ≤ 2 ^ 31 - 1 := by
  simp [Config.overflowKind]

/-- An exact result in range is what the wrapped word says as a signed integer. -/
theorem toInt_wrap {t : Int} (h : Config.overflowKind t = false) : (wrap t).toInt = t := by
  rw [overflowKind_eq_false_iff] at h
  rw [wrap, BitVec.toInt_ofInt]
  rw [Int.bmod_eq_of_le] <;> omega

theorem State.checked_next {s t : State} {r : Int} {k : Word → State} (h : s.checked r k = .next t) :
    (Config.overflowKind r = false ∧ t = (k (wrap r)).setCarry false) ∨
    (Config.overflowKind r = true ∧ ifuFull s.ifu = false ∧ t = s.trapEntry .overflow) :=
  State.trapIf_next h

theorem State.lisp_next {s t : State} {x y r : Word} {k : Word → State} (h : s.lisp x y r k = .next t) :
    (Config.lispNaN x y r = false ∧ t = (k r).setCarry false) ∨
    (Config.lispNaN x y r = true ∧ ifuFull s.ifu = false ∧ t = s.trapEntry .lispNaN) :=
  State.trapIf_next h

theorem State.checkBound_next {s t done : State} {x y : Word} (h : s.checkBound x y done = .next t) :
    (belowBound x y = true ∧ t = done) ∨
    (belowBound x y = false ∧ ifuFull s.ifu = false ∧ t = s.trapEntry .boundsCheck) := by
  simpa using State.trapIf_next h

/-- Below the bound is unsigned `<` (R230). -/
theorem belowBound_iff (x y : Word) : belowBound x y = true ↔ x.toNat < y.toNat := by
  simp [belowBound, Config.bcUnsigned, BitVec.ult]

/-- The jumps' `<` is signed (R216). -/
theorem jumpLess_iff (x y : Word) : jumpLess x y = true ↔ x.toInt < y.toInt := by
  simp [jumpLess, Config.cmpSigned, BitVec.slt]

theorem jumpLessEq_iff (x y : Word) : jumpLessEq x y = true ↔ x.toInt ≤ y.toInt := by
  simp [jumpLessEq, Config.cmpSigned, BitVec.sle]

end Sys2Proof.Machine

namespace Sys2Proof

/-! Decoding gives back what was encoded -/

theorem Mnemonic.mem_all (m : Mnemonic) : m ∈ Mnemonic.all := by cases m <;> decide +kernel

/-- Under an injective opcode map the byte of a mnemonic reads back as that mnemonic (R88). -/
theorem mnemonicOf_opc {opc : Mnemonic → Byte} (h : Function.Injective opc) (m : Mnemonic) : mnemonicOf opc (opc m) = some m := by
  unfold mnemonicOf
  cases e : Mnemonic.all.find? fun x => opc x == opc m with
  | none => exact absurd (List.find?_eq_none.mp e m m.mem_all) (by simp)
  | some x => exact congrArg some (h (by simpa using List.find?_some e))

/-- What `mnemonicOf` answers has that byte. -/
theorem mnemonicOf_some {opc : Mnemonic → Byte} {op : Byte} {m : Mnemonic} (h : mnemonicOf opc op = some m) : opc m = op := by
  simpa using List.find?_some h

/-- A byte no mnemonic has is unassigned (R92). -/
theorem mnemonicOf_eq_none {opc : Mnemonic → Byte} {op : Byte} (h : ∀ m, opc m ≠ op) : mnemonicOf opc op = none := by
  simpa [mnemonicOf] using fun m _ => h m

theorem mnemonicOf_refOpc (m : Mnemonic) : mnemonicOf Config.refOpc (Config.refOpc m) = some m := by
  have h : ∀ x ∈ Mnemonic.all, mnemonicOf Config.refOpc (Config.refOpc x) = some x := by decide +kernel
  exact h m m.mem_all

theorem regFileOf_flag (f : RegFile) : regFileOf Config.regCode ((f.flag Config.regCode).getLsbD 0) = f := by cases f <;> rfl

theorem srcOf_code (x : Src) : srcOf Config.regCode x.opt (x.code Config.regCode) = x := by
  cases x with
  | reg n => rfl
  | const m => revert m; decide +kernel
  | top => rfl
  | second => rfl
  | topPop => rfl
  | secondPop => rfl

theorem dstOf_code (x : Dst) : dstOf Config.regCode x.opt (x.code Config.regCode) = some x := by
  cases x with
  | reg n => rfl
  | const m => revert m; decide +kernel
  | top => rfl
  | second => rfl
  | push => rfl

theorem qOf_code (q : QSel) : qOf Config.regCode (q.code Config.regCode) = q := by cases q <;> rfl

theorem tOf_code (t : TSel) : tOf Config.regCode (t.code Config.regCode) = t := by cases t <;> rfl

theorem fields_two_four (q : BitVec 2) (o f : BitVec 1) (n : BitVec 4) :
    let x := fieldAt q 6 ||| (fieldAt o 5 ||| fieldAt f 4 ||| fieldAt n 0)
    x.extractLsb' 6 2 = q ∧ x.getLsbD 5 = o.getLsbD 0 ∧ x.getLsbD 4 = f.getLsbD 0 ∧ x.extractLsb' 0 4 = n := by
  revert q o f n; decide +kernel

theorem fields_flags_four (a c o f : BitVec 1) (n : BitVec 4) :
    let x := fieldAt a 7 ||| fieldAt c 6 ||| (fieldAt o 5 ||| fieldAt f 4 ||| fieldAt n 0)
    x.getLsbD 7 = a.getLsbD 0 ∧ x.getLsbD 6 = c.getLsbD 0 ∧ x.getLsbD 5 = o.getLsbD 0 ∧ x.getLsbD 4 = f.getLsbD 0 ∧
      x.extractLsb' 0 4 = n := by
  revert a c o f n; decide +kernel

theorem fields_four_four (x y : BitVec 4) :
    (fieldAt x 4 ||| fieldAt y 0).extractLsb' 4 4 = x ∧ (fieldAt x 4 ||| fieldAt y 0).extractLsb' 0 4 = y := by
  revert x y; decide +kernel

theorem getLsbD_ofBool_zero (b : Bool) : (BitVec.ofBool b).getLsbD 0 = b := by cases b <;> rfl

/-- The bytes of RRR operands read back as those operands (R77 to R81). -/
theorem rrrOf_rrrBytes (o : RRR) : ∃ x y, rrrBytes Config.regCode o = [x, y] ∧ rrrOf Config.regCode x y = some o := by
  refine ⟨_, _, rfl, ?_⟩
  obtain ⟨ha, hc, hb, hf, hn⟩ := fields_flags_four (BitVec.ofBool o.ra.opt) (BitVec.ofBool o.rc.opt) (BitVec.ofBool o.rb.opt)
    (o.file.flag Config.regCode) (o.rb.code Config.regCode)
  obtain ⟨hc', ha'⟩ := fields_four_four (o.rc.code Config.regCode) (o.ra.code Config.regCode)
  rw [getLsbD_ofBool_zero] at ha hc hb
  unfold rrrOf
  simp only [Config.regCode, rbBits] at *
  rw [ha, hc, hb, hf, hn, hc', ha']
  have h1 := dstOf_code o.rc; have h2 := srcOf_code o.ra; have h3 := srcOf_code o.rb; have h4 := regFileOf_flag o.file
  simp only [Config.regCode] at h1 h2 h3 h4
  rw [h1, h2, h3, h4]

/-- The byte of QR operands reads back as those operands (R82). -/
theorem qrOf_qrByte (o : QR) : qrOf Config.regCode (qrByte Config.regCode o) = o := by
  obtain ⟨hq, hb, hf, hn⟩ := fields_two_four (o.q.code Config.regCode) (BitVec.ofBool o.rb.opt)
    (o.file.flag Config.regCode) (o.rb.code Config.regCode)
  rw [getLsbD_ofBool_zero] at hb
  have h1 := qOf_code o.q; have h3 := srcOf_code o.rb; have h4 := regFileOf_flag o.file
  unfold qrOf qrByte
  simp only [Config.regCode, rbBits] at *
  rw [hq, hb, hf, hn, h1, h3, h4]

/-- The bytes of RD operands read back as those operands (R83). -/
theorem rdOf_rdBytes (o : RD) : ∃ x y, rdBytes Config.regCode o = [x, y] ∧ rdOf Config.regCode x y = o := by
  refine ⟨_, _, rfl, ?_⟩
  obtain ⟨hq, hb, hf, hn⟩ := fields_two_four (o.t.code Config.regCode) (BitVec.ofBool o.rb.opt)
    (o.file.flag Config.regCode) (o.rb.code Config.regCode)
  rw [getLsbD_ofBool_zero] at hb
  have h1 := tOf_code o.t; have h3 := srcOf_code o.rb; have h4 := regFileOf_flag o.file
  unfold rdOf
  simp only [Config.regCode, rbBits] at *
  rw [hq, hb, hf, hn, h1, h3, h4]

/-- The bytes of XRO operands read back as those operands (R85). -/
theorem xroOf_xroBytes (o : XRO) : ∃ x y, xroBytes Config.regCode o = [x, y] ∧ xroOf Config.regCode x y = o := by
  refine ⟨_, _, rfl, ?_⟩
  obtain ⟨ha, hb⟩ := fields_four_four o.regA o.regB
  unfold xroOf
  simp only [Config.regCode]
  rw [ha, hb]

/-- The bytes of LIO operands read back as those operands, in either order (R86). -/
theorem lioOf_lioBytes (split : Config.LioSplit) (o : LIO) : ∃ x y, lioBytes split o = [x, y] ∧ lioOf split x y = o := by
  cases split <;> exact ⟨_, _, rfl, rfl⟩

end Sys2Proof
end

