-- ==== Sys2Proof/Laws/PerInstr.lean ====
section
/-! SUPPORT. Facts about every instruction, one lemma per constructor. -/

namespace Sys2Proof.Laws.EncodeLength

/-- The opcode byte the encoder writes asks for as many bytes as the encoder writes (R70). -/
def Statement (i : Instr) : Prop := opLength ((encode i).headD 0) = some (encode i).length

/-- The opcode byte reads back as the mnemonic, whose format fixes the length. -/
theorem of_form (i : Instr) (h : i.mnemonic.form.length = (encode i).length) : Statement i := by
  show (mnemonicOf Config.refOpc (Config.refOpc i.mnemonic)).map _ = _
  rw [mnemonicOf_refOpc]
  exact congrArg some h

theorem addb (a : Byte) : Statement (.addb a) := of_form _ rfl
theorem adddb (ab : Half) : Statement (.adddb ab) := of_form _ rfl
theorem addqb (abgd : Word) : Statement (.addqb abgd) := of_form _ rfl
theorem add : Statement (.add) := of_form _ rfl
theorem radd (o : RRR) : Statement (.radd o) := of_form _ rfl
theorem qadd (o : QR) : Statement (.qadd o) := of_form _ rfl
theorem ruadd (o : RRR) : Statement (.ruadd o) := of_form _ rfl
theorem rvadd (o : RRR) : Statement (.rvadd o) := of_form _ rfl
theorem subb (a : Byte) : Statement (.subb a) := of_form _ rfl
theorem subdb (ab : Half) : Statement (.subdb ab) := of_form _ rfl
theorem subqb (abgd : Word) : Statement (.subqb abgd) := of_form _ rfl
theorem sub : Statement (.sub) := of_form _ rfl
theorem rsub (o : RRR) : Statement (.rsub o) := of_form _ rfl
theorem qsub (o : QR) : Statement (.qsub o) := of_form _ rfl
theorem rusub (o : RRR) : Statement (.rusub o) := of_form _ rfl
theorem rvsub (o : RRR) : Statement (.rvsub o) := of_form _ rfl
theorem and : Statement (.and) := of_form _ rfl
theorem rand (o : RRR) : Statement (.rand o) := of_form _ rfl
theorem qand (o : QR) : Statement (.qand o) := of_form _ rfl
theorem or : Statement (.or) := of_form _ rfl
theorem ror (o : RRR) : Statement (.ror o) := of_form _ rfl
theorem qor (o : QR) : Statement (.qor o) := of_form _ rfl
theorem rxor (o : RRR) : Statement (.rxor o) := of_form _ rfl
theorem shl (ab : Half) : Statement (.shl ab) := of_form _ rfl
theorem shr (ab : Half) : Statement (.shr ab) := of_form _ rfl
theorem shdl (ab : Half) : Statement (.shdl ab) := of_form _ rfl
theorem shdr (ab : Half) : Statement (.shdr ab) := of_form _ rfl
theorem fsdb (ab : Half) : Statement (.fsdb ab) := of_form _ rfl
theorem rfu (o : RRR) : Statement (.rfu o) := of_form _ rfl
theorem j1 : Statement (.j1) := of_form _ rfl
theorem j2 (a : Byte) : Statement (.j2 a) := of_form _ rfl
theorem j3 (ab : Half) : Statement (.j3 ab) := of_form _ rfl
theorem j5 (abgd : Word) : Statement (.j5 abgd) := of_form _ rfl
theorem lib (a : Byte) : Statement (.lib a) := of_form _ rfl
theorem lidb (ab : Half) : Statement (.lidb ab) := of_form _ rfl
theorem liqb (abgd : Word) : Statement (.liqb abgd) := of_form _ rfl
theorem lc0 : Statement (.lc0) := of_form _ rfl
theorem lc1 : Statement (.lc1) := of_form _ rfl
theorem lc2 : Statement (.lc2) := of_form _ rfl
theorem lc3 : Statement (.lc3) := of_form _ rfl
theorem lc4 : Statement (.lc4) := of_form _ rfl
theorem lc5 : Statement (.lc5) := of_form _ rfl
theorem lc6 : Statement (.lc6) := of_form _ rfl
theorem lc7 : Statement (.lc7) := of_form _ rfl
theorem lc8 : Statement (.lc8) := of_form _ rfl
theorem lc9 : Statement (.lc9) := of_form _ rfl
theorem lc10 : Statement (.lc10) := of_form _ rfl
theorem lc11 : Statement (.lc11) := of_form _ rfl
theorem lfc (ab : Half) : Statement (.lfc ab) := of_form _ rfl
theorem dfc (abgd : Word) : Statement (.dfc abgd) := of_form _ rfl
theorem sfc : Statement (.sfc) := of_form _ rfl
theorem sfci : Statement (.sfci) := of_form _ rfl
theorem kfc : Statement (.kfc) := of_form _ rfl
theorem retn : Statement (.retn) := of_form _ rfl
theorem ret (a : Byte) : Statement (.ret a) := of_form _ rfl
theorem dis : Statement (.dis) := of_form _ rfl
theorem as (a : Byte) : Statement (.as a) := of_form _ rfl
theorem asl (a : Byte) : Statement (.asl a) := of_form _ rfl
theorem als (a : Byte) : Statement (.als a) := of_form _ rfl
theorem al (a : Byte) : Statement (.al a) := of_form _ rfl
theorem dup : Statement (.dup) := of_form _ rfl
theorem exdis : Statement (.exdis) := of_form _ rfl
theorem lr0 : Statement (.lr0) := of_form _ rfl
theorem lr1 : Statement (.lr1) := of_form _ rfl
theorem lr2 : Statement (.lr2) := of_form _ rfl
theorem lr3 : Statement (.lr3) := of_form _ rfl
theorem lr4 : Statement (.lr4) := of_form _ rfl
theorem lr5 : Statement (.lr5) := of_form _ rfl
theorem lr6 : Statement (.lr6) := of_form _ rfl
theorem lr7 : Statement (.lr7) := of_form _ rfl
theorem lr8 : Statement (.lr8) := of_form _ rfl
theorem lr9 : Statement (.lr9) := of_form _ rfl
theorem lr10 : Statement (.lr10) := of_form _ rfl
theorem lr11 : Statement (.lr11) := of_form _ rfl
theorem lr12 : Statement (.lr12) := of_form _ rfl
theorem lr13 : Statement (.lr13) := of_form _ rfl
theorem lr14 : Statement (.lr14) := of_form _ rfl
theorem lr15 : Statement (.lr15) := of_form _ rfl
theorem sr0 : Statement (.sr0) := of_form _ rfl
theorem sr1 : Statement (.sr1) := of_form _ rfl
theorem sr2 : Statement (.sr2) := of_form _ rfl
theorem sr3 : Statement (.sr3) := of_form _ rfl
theorem sr4 : Statement (.sr4) := of_form _ rfl
theorem sr5 : Statement (.sr5) := of_form _ rfl
theorem sr6 : Statement (.sr6) := of_form _ rfl
theorem sr7 : Statement (.sr7) := of_form _ rfl
theorem sr8 : Statement (.sr8) := of_form _ rfl
theorem sr9 : Statement (.sr9) := of_form _ rfl
theorem sr10 : Statement (.sr10) := of_form _ rfl
theorem sr11 : Statement (.sr11) := of_form _ rfl
theorem sr12 : Statement (.sr12) := of_form _ rfl
theorem sr13 : Statement (.sr13) := of_form _ rfl
theorem sr14 : Statement (.sr14) := of_form _ rfl
theorem sr15 : Statement (.sr15) := of_form _ rfl
theorem rrx (o : RRR) : Statement (.rrx o) := of_form _ rfl
theorem qrx (o : QR) : Statement (.qrx o) := of_form _ rfl
theorem rb (a : Byte) : Statement (.rb a) := of_form _ rfl
theorem rsb (a : Byte) : Statement (.rsb a) := of_form _ rfl
theorem rx : Statement (.rx) := of_form _ rfl
theorem rri (o : XRO) : Statement (.rri o) := of_form _ rfl
theorem rai (o : XRO) : Statement (.rai o) := of_form _ rfl
theorem lgf (ab : Half) : Statement (.lgf ab) := of_form _ rfl
theorem lri0 (a : Byte) : Statement (.lri0 a) := of_form _ rfl
theorem lri1 (a : Byte) : Statement (.lri1 a) := of_form _ rfl
theorem lri2 (a : Byte) : Statement (.lri2 a) := of_form _ rfl
theorem lri3 (a : Byte) : Statement (.lri3 a) := of_form _ rfl
theorem lri4 (a : Byte) : Statement (.lri4 a) := of_form _ rfl
theorem lri5 (a : Byte) : Statement (.lri5 a) := of_form _ rfl
theorem lri6 (a : Byte) : Statement (.lri6 a) := of_form _ rfl
theorem lri7 (a : Byte) : Statement (.lri7 a) := of_form _ rfl
theorem lri8 (a : Byte) : Statement (.lri8 a) := of_form _ rfl
theorem lri9 (a : Byte) : Statement (.lri9 a) := of_form _ rfl
theorem lri10 (a : Byte) : Statement (.lri10 a) := of_form _ rfl
theorem lri11 (a : Byte) : Statement (.lri11 a) := of_form _ rfl
theorem lri12 (a : Byte) : Statement (.lri12 a) := of_form _ rfl
theorem lri13 (a : Byte) : Statement (.lri13 a) := of_form _ rfl
theorem lri14 (a : Byte) : Statement (.lri14 a) := of_form _ rfl
theorem lri15 (a : Byte) : Statement (.lri15 a) := of_form _ rfl
theorem wb (a : Byte) : Statement (.wb a) := of_form _ rfl
theorem wsb (a : Byte) : Statement (.wsb a) := of_form _ rfl
theorem psb (a : Byte) : Statement (.psb a) := of_form _ rfl
theorem wri (o : XRO) : Statement (.wri o) := of_form _ rfl
theorem wai (o : XRO) : Statement (.wai o) := of_form _ rfl
theorem cst (a : Byte) : Statement (.cst a) := of_form _ rfl
theorem sri0 (a : Byte) : Statement (.sri0 a) := of_form _ rfl
theorem sri1 (a : Byte) : Statement (.sri1 a) := of_form _ rfl
theorem sri2 (a : Byte) : Statement (.sri2 a) := of_form _ rfl
theorem sri3 (a : Byte) : Statement (.sri3 a) := of_form _ rfl
theorem sri4 (a : Byte) : Statement (.sri4 a) := of_form _ rfl
theorem sri5 (a : Byte) : Statement (.sri5 a) := of_form _ rfl
theorem sri6 (a : Byte) : Statement (.sri6 a) := of_form _ rfl
theorem sri7 (a : Byte) : Statement (.sri7 a) := of_form _ rfl
theorem sri8 (a : Byte) : Statement (.sri8 a) := of_form _ rfl
theorem sri9 (a : Byte) : Statement (.sri9 a) := of_form _ rfl
theorem sri10 (a : Byte) : Statement (.sri10 a) := of_form _ rfl
theorem sri11 (a : Byte) : Statement (.sri11 a) := of_form _ rfl
theorem sri12 (a : Byte) : Statement (.sri12 a) := of_form _ rfl
theorem sri13 (a : Byte) : Statement (.sri13 a) := of_form _ rfl
theorem sri14 (a : Byte) : Statement (.sri14 a) := of_form _ rfl
theorem sri15 (a : Byte) : Statement (.sri15 a) := of_form _ rfl
theorem jb (a : Byte) : Statement (.jb a) := of_form _ rfl
theorem jdb (ab : Half) : Statement (.jdb ab) := of_form _ rfl
theorem jqb (abgd : Word) : Statement (.jqb abgd) := of_form _ rfl
theorem jsd : Statement (.jsd) := of_form _ rfl
theorem jsr : Statement (.jsr) := of_form _ rfl
theorem jebb (a : Byte) (b : Byte) : Statement (.jebb a b) := of_form _ rfl
theorem jebbj (a : Byte) (b : Byte) : Statement (.jebbj a b) := of_form _ rfl
theorem jnebb (a : Byte) (b : Byte) : Statement (.jnebb a b) := of_form _ rfl
theorem jnebbj (a : Byte) (b : Byte) : Statement (.jnebbj a b) := of_form _ rfl
theorem rjlb (o : RD) : Statement (.rjlb o) := of_form _ rfl
theorem rjlbj (o : RD) : Statement (.rjlbj o) := of_form _ rfl
theorem rjleb (o : RD) : Statement (.rjleb o) := of_form _ rfl
theorem rjlebj (o : RD) : Statement (.rjlebj o) := of_form _ rfl
theorem rjeb (o : RD) : Statement (.rjeb o) := of_form _ rfl
theorem rjebj (o : RD) : Statement (.rjebj o) := of_form _ rfl
theorem rjneb (o : RD) : Statement (.rjneb o) := of_form _ rfl
theorem rjnebj (o : RD) : Statement (.rjnebj o) := of_form _ rfl
theorem rjgeb (o : RD) : Statement (.rjgeb o) := of_form _ rfl
theorem rjgebj (o : RD) : Statement (.rjgebj o) := of_form _ rfl
theorem rjgb (o : RD) : Statement (.rjgb o) := of_form _ rfl
theorem rjgbj (o : RD) : Statement (.rjgbj o) := of_form _ rfl
theorem rbc (o : RRR) : Statement (.rbc o) := of_form _ rfl
theorem bc : Statement (.bc) := of_form _ rfl
theorem qbc (o : QR) : Statement (.qbc o) := of_form _ rfl
theorem ladd : Statement (.ladd) := of_form _ rfl
theorem qladd (o : QR) : Statement (.qladd o) := of_form _ rfl
theorem rladd (o : RRR) : Statement (.rladd o) := of_form _ rfl
theorem lsub : Statement (.lsub) := of_form _ rfl
theorem qlsub (o : QR) : Statement (.qlsub o) := of_form _ rfl
theorem rlsub (o : RRR) : Statement (.rlsub o) := of_form _ rfl
theorem lip (a : Byte) : Statement (.lip a) := of_form _ rfl
theorem sip (a : Byte) : Statement (.sip a) := of_form _ rfl
theorem iod (o : LIO) : Statement (.iod o) := of_form _ rfl
theorem ioda (o : LIO) : Statement (.ioda o) := of_form _ rfl
theorem ion (o : LIO) : Statement (.ion o) := of_form _ rfl

end Sys2Proof.Laws.EncodeLength
end

