-- ==== Sys2Proof/Tests/Slice0.lean ====
section
/-! SUPPORT. Tests of the model, and a witness for each obligation that has hypotheses. Words and results come from the encodings of
spec/30_encoding.md and the vectors V<n> of spec/95_test_vectors.md, not from the model. -/

namespace Sys2Proof.Tests

-- One theorem at a time: side by side, the kernel evaluations take more threads than the memory limit allows.
set_option Elab.async false

open Sys2Proof.Machine

/-! Well-formedness: an ill-formed term for each check of R130 -/

theorem test_wellFormed_pad :
    [Instr.shl 0x2804, .shr 0x2000, .shdl 0x8000, .shdr 0x4000].all (fun i => !wellFormed i) = true := by decide +kernel

theorem test_wellFormed_width :
    [Instr.shl 0x0844, .shr 0x0844, .shdl 0x0FC0, .shdr 0x1844].all (fun i => !wellFormed i) = true := by decide +kernel

theorem test_wellFormed_shift :
    [Instr.shl 0x0821, .shr 0x0021, .shdl 0x183F, .shdr 0x0021].all (fun i => !wellFormed i) = true := by decide +kernel

/-- The largest width and shift are in range; FSDB takes any literal (R136). -/
theorem test_wellFormed_in_range :
    [Instr.shl 0x1820, .shr 0x0820, .shdl 0, .shdr 0x1000, .fsdb 0xFFFF].all wellFormed = true := by decide +kernel

/-- A term the decoder would refuse is refused by `exec` too. -/
theorem test_exec_refuses_ill_formed : exec (.shl 0x2804) State.reset = .refused .fieldDescriptor := rfl

/-! Decoding: words written out from the encodings -/

/-- Whether each byte sequence decodes, whole, to the instruction beside it. -/
def decodes (l : List (List Byte × Instr)) : Bool := l.all fun p => decide (decode p.1 = .ok (p.2, []))

theorem test_decode_addition : decodes [
    ([0x10, 0x00], .addb 0x00), ([0x11, 0xFF, 0xF0], .adddb 0xFFF0), ([0x12, 0x12, 0x34, 0x56, 0x78], .addqb 0x12345678),
    ([0x13], .add), ([0x14, 0x01, 0x20], .radd ⟨.locals, .reg 0, .reg 1, .reg 2⟩),
    ([0x15, 0x03], .qadd ⟨.topToTop, .locals, .reg 3⟩), ([0x16, 0xEE, 0xDD], .ruadd ⟨.locals, .second, .topPop, .second⟩),
    ([0x17, 0xEF, 0xEE], .rvadd ⟨.locals, .topPop, .secondPop, .push⟩)] = true := by decide +kernel

theorem test_decode_subtraction : decodes [
    ([0x18, 0xFF], .subb 0xFF), ([0x19, 0x80, 0x01], .subdb 0x8001), ([0x1A, 0x80, 0x00, 0x00, 0x01], .subqb 0x80000001),
    ([0x1B], .sub), ([0x1C, 0xE1, 0x30], .rsub ⟨.locals, .const 0, .const 1, .const 3⟩),
    ([0x1D, 0x6C], .qsub ⟨.topToPush, .locals, .top⟩), ([0x1E, 0x11, 0x20], .rusub ⟨.aux, .reg 0, .reg 1, .reg 2⟩),
    ([0x1F, 0xED, 0xCC], .rvsub ⟨.locals, .top, .second, .top⟩)] = true := by decide +kernel

theorem test_decode_bitwise_logical : decodes [
    ([0x20], .and), ([0x21, 0x22, 0x11], .rand ⟨.locals, .reg 1, .const 2, .reg 1⟩),
    ([0x22, 0xAE], .qand ⟨.const0ToPush, .locals, .topPop⟩), ([0x23], .or),
    ([0x24, 0xEC, 0xCD], .ror ⟨.locals, .second, .top, .top⟩), ([0x25, 0xE1], .qor ⟨.const1ToPush, .locals, .const 1⟩),
    ([0x26, 0x9F, 0x4B], .rxor ⟨.aux, .const 11, .reg 15, .reg 4⟩)] = true := by decide +kernel

theorem test_decode_field_unit : decodes [
    ([0x28, 0x08, 0x04], .shl 0x0804), ([0x29, 0x07, 0x1C], .shr 0x071C), ([0x2A, 0x12, 0x08], .shdl 0x1208),
    ([0x2B, 0x08, 0x18], .shdr 0x0818), ([0x2C, 0xFF, 0xFF], .fsdb 0xFFFF),
    ([0x2D, 0x54, 0xB7], .rfu ⟨.aux, .reg 7, .reg 4, .const 11⟩)] = true := by decide +kernel

theorem test_decode_noops : decodes [
    ([0x30], .j1), ([0x31, 0x80], .j2 0x80), ([0x32, 0x12, 0x34], .j3 0x1234), ([0x33, 0xDE, 0xAD, 0xBE, 0xEF], .j5 0xDEADBEEF)] = true := by decide +kernel

theorem test_decode_constants : decodes [
    ([0x34, 0x7F], .lib 0x7F), ([0x35, 0x00, 0x10], .lidb 0x0010), ([0x36, 0x12, 0x34, 0x56, 0x78], .liqb 0x12345678),
    ([0x40], .lc0), ([0x41], .lc1), ([0x42], .lc2), ([0x43], .lc3), ([0x44], .lc4), ([0x45], .lc5), ([0x46], .lc6),
    ([0x47], .lc7), ([0x48], .lc8), ([0x49], .lc9), ([0x4A], .lc10), ([0x4B], .lc11)] = true := by decide +kernel

theorem test_decode_procedure_calls_and_returns : decodes [
    ([0x50, 0xFF, 0xF0], .lfc 0xFFF0), ([0x51, 0x80, 0x00, 0x00, 0x01], .dfc 0x80000001), ([0x52], .sfc), ([0x53], .sfci),
    ([0x54], .kfc), ([0x55], .retn), ([0x56, 0x01], .ret 0x01)] = true := by decide +kernel

theorem test_decode_frame_and_stack_pointers : decodes [
    ([0x58], .dis), ([0x59, 0xA5], .as 0xA5), ([0x5A, 0x00], .asl 0x00), ([0x5B, 0xFF], .als 0xFF), ([0x5C, 0x80], .al 0x80)] = true := by decide +kernel

theorem test_decode_register_copies : decodes [
    ([0x5E], .dup), ([0x5F], .exdis), ([0x60], .lr0), ([0x61], .lr1), ([0x62], .lr2), ([0x63], .lr3), ([0x64], .lr4),
    ([0x65], .lr5), ([0x66], .lr6), ([0x67], .lr7), ([0x68], .lr8), ([0x69], .lr9), ([0x6A], .lr10), ([0x6B], .lr11),
    ([0x6C], .lr12), ([0x6D], .lr13), ([0x6E], .lr14), ([0x6F], .lr15), ([0x70], .sr0), ([0x71], .sr1), ([0x72], .sr2),
    ([0x73], .sr3), ([0x74], .sr4), ([0x75], .sr5), ([0x76], .sr6), ([0x77], .sr7), ([0x78], .sr8), ([0x79], .sr9),
    ([0x7A], .sr10), ([0x7B], .sr11), ([0x7C], .sr12), ([0x7D], .sr13), ([0x7E], .sr14), ([0x7F], .sr15)] = true := by decide +kernel

theorem test_decode_loads_from_memory : decodes [
    ([0x80, 0x01, 0x20], .rrx ⟨.locals, .reg 0, .reg 1, .reg 2⟩), ([0x81, 0xD9], .qrx ⟨.const1ToPush, .aux, .reg 9⟩),
    ([0x82, 0x7F], .rb 0x7F), ([0x83, 0x01], .rsb 0x01), ([0x84], .rx), ([0x85, 0x31, 0x10], .rri ⟨3, 1, 0x10⟩),
    ([0x86, 0x0F, 0xFF], .rai ⟨0, 15, 0xFF⟩), ([0x87, 0x80, 0x01], .lgf 0x8001), ([0x90, 0xA5], .lri0 0xA5),
    ([0x91, 0x00], .lri1 0x00), ([0x92, 0xFF], .lri2 0xFF), ([0x93, 0x80], .lri3 0x80), ([0x94, 0x7F], .lri4 0x7F),
    ([0x95, 0x01], .lri5 0x01), ([0x96, 0xA5], .lri6 0xA5), ([0x97, 0x00], .lri7 0x00), ([0x98, 0xFF], .lri8 0xFF),
    ([0x99, 0x80], .lri9 0x80), ([0x9A, 0x7F], .lri10 0x7F), ([0x9B, 0x01], .lri11 0x01), ([0x9C, 0xA5], .lri12 0xA5),
    ([0x9D, 0x00], .lri13 0x00), ([0x9E, 0xFF], .lri14 0xFF), ([0x9F, 0x80], .lri15 0x80)] = true := by decide +kernel

theorem test_decode_stores_to_memory : decodes [
    ([0xA0, 0x7F], .wb 0x7F), ([0xA1, 0x01], .wsb 0x01), ([0xA2, 0xA5], .psb 0xA5), ([0xA3, 0xF2, 0x80], .wri ⟨15, 2, 0x80⟩),
    ([0xA4, 0xA7, 0x01], .wai ⟨10, 7, 0x01⟩), ([0xA5, 0x00], .cst 0x00), ([0xB0, 0xFF], .sri0 0xFF),
    ([0xB1, 0x80], .sri1 0x80), ([0xB2, 0x7F], .sri2 0x7F), ([0xB3, 0x01], .sri3 0x01), ([0xB4, 0xA5], .sri4 0xA5),
    ([0xB5, 0x00], .sri5 0x00), ([0xB6, 0xFF], .sri6 0xFF), ([0xB7, 0x80], .sri7 0x80), ([0xB8, 0x7F], .sri8 0x7F),
    ([0xB9, 0x01], .sri9 0x01), ([0xBA, 0xA5], .sri10 0xA5), ([0xBB, 0x00], .sri11 0x00), ([0xBC, 0xFF], .sri12 0xFF),
    ([0xBD, 0x80], .sri13 0x80), ([0xBE, 0x7F], .sri14 0x7F), ([0xBF, 0x01], .sri15 0x01)] = true := by decide +kernel

theorem test_decode_unconditional_jumps : decodes [
    ([0xC0, 0xA5], .jb 0xA5), ([0xC1, 0x12, 0x34], .jdb 0x1234), ([0xC2, 0xDE, 0xAD, 0xBE, 0xEF], .jqb 0xDEADBEEF),
    ([0xC3], .jsd), ([0xC4], .jsr)] = true := by decide +kernel

theorem test_decode_conditional_jumps : decodes [
    ([0xD0, 0x05, 0x10], .jebb 0x05 0x10), ([0xD1, 0xFF, 0x80], .jebbj 0xFF 0x80), ([0xD2, 0x00, 0xF7], .jnebb 0x00 0xF7),
    ([0xD3, 0x5A, 0x01], .jnebbj 0x5A 0x01), ([0xD4, 0x00, 0x20], .rjlb ⟨.top, .locals, .reg 0, 0x20⟩),
    ([0xD5, 0x11, 0x20], .rjlbj ⟨.top, .aux, .reg 1, 0x20⟩), ([0xD6, 0x40, 0x7F], .rjleb ⟨.topPop, .locals, .reg 0, 0x7F⟩),
    ([0xD7, 0x6F, 0x08], .rjlebj ⟨.topPop, .locals, .secondPop, 0x08⟩),
    ([0xD8, 0xAC, 0xFC], .rjeb ⟨.const0, .locals, .top, 0xFC⟩), ([0xD9, 0xEE, 0x08], .rjebj ⟨.const1, .locals, .topPop, 0x08⟩),
    ([0xDA, 0x2B, 0x80], .rjneb ⟨.top, .locals, .const 11, 0x80⟩),
    ([0xDB, 0xDD, 0x01], .rjnebj ⟨.const1, .aux, .reg 13, 0x01⟩),
    ([0xDC, 0xAD, 0xFE], .rjgeb ⟨.const0, .locals, .second, 0xFE⟩),
    ([0xDD, 0x9A, 0x10], .rjgebj ⟨.const0, .aux, .reg 10, 0x10⟩), ([0xDE, 0x00, 0x20], .rjgb ⟨.top, .locals, .reg 0, 0x20⟩),
    ([0xDF, 0x11, 0x20], .rjgbj ⟨.top, .aux, .reg 1, 0x20⟩)] = true := by decide +kernel

theorem test_decode_bounds_checks : decodes [
    ([0xE0, 0xEE, 0xDD], .rbc ⟨.locals, .second, .topPop, .second⟩), ([0xE1], .bc),
    ([0xE2, 0x2F], .qbc ⟨.topToTop, .locals, .secondPop⟩)] = true := by decide +kernel

theorem test_decode_lisp_instructions : decodes [
    ([0xE8], .ladd), ([0xE9, 0x22], .qladd ⟨.topToTop, .locals, .const 2⟩),
    ([0xEA, 0xEF, 0xEE], .rladd ⟨.locals, .topPop, .secondPop, .push⟩), ([0xEB], .lsub),
    ([0xEC, 0x5D], .qlsub ⟨.topToPush, .aux, .reg 13⟩), ([0xED, 0xE1, 0x30], .rlsub ⟨.locals, .const 0, .const 1, .const 3⟩)] = true := by decide +kernel

theorem test_decode_input_and_output : decodes [
    ([0xF0, 0x00], .lip 0x00), ([0xF1, 0xFF], .sip 0xFF), ([0xF2, 0x10, 0x01], .iod ⟨0x10, 0x01⟩),
    ([0xF3, 0xFF, 0x02], .ioda ⟨0xFF, 0x02⟩), ([0xF4, 0x00, 0x80], .ion ⟨0x00, 0x80⟩)] = true := by decide +kernel

/-- Rc code 15 (V192), descriptors out of range (V49, V50), an unassigned opcode (V191), a word cut short. -/
theorem test_decode_refuses :
    (decide (decode [0x14, 0xED, 0xFC] = .error .reservedRcCode) && decide (decode [0x28, 0x28, 0x04] = .error .fieldDescriptor) &&
      decide (decode [0x28, 0x08, 0x44] = .error .fieldDescriptor) && decide (decode [0x00] = .error (.unassignedOpcode 0)) &&
      decide (decode [0x88] = .error (.unassignedOpcode 0x88)) && decide (decode [0x12, 1, 2, 3] = .error .tooShort)) = true := by
  decide +kernel

/-! The coding is an argument of the decoder (R88, R86) -/

/-- 175 byte values are assigned, 81 are not (R88). -/
theorem test_opcode_count :
    Mnemonic.all.length = 175 ∧ ((List.range 256).filter fun n => (opLength (BitVec.ofNat 8 n)).isSome).length = 175 := by
  decide +kernel

/-- Under the map that complements REF_OPC and the other LIO split, IOD 10, 01 is 0D 01 10, E6 is SUBDB and F2 is unassigned. -/
theorem test_other_coding :
    (let c : Config.Coding := ⟨fun m => Config.refOpc m ^^^ 0xFF, Config.regCode, .commandFirst⟩
     decodeWith c [0x0D, 0x01, 0x10] = .ok (.iod ⟨0x10, 0x01⟩, []) ∧ encodeWith c (.iod ⟨0x10, 0x01⟩) = [0x0D, 0x01, 0x10] ∧
       decodeWith c [0xF2, 0x01, 0x10] = .error (.unassignedOpcode 0xF2) ∧ decodeWith c [0xE6, 0x01, 0x10] = .ok (.subdb 0x110, [])) := by
  decide +kernel

/-! Steps: the vectors of spec/95_test_vectors.md, at most two for each instruction -/

/-- The default start state of the vectors: S = 5, L = 20, PC = 1000, user mode. -/
def start : State := { State.reset with sp := 5, fp := 20, pc := 0x1000, mode := .user }

/-- `s` with `bytes` as its program, at PC. -/
def place (s : State) (bytes : List Byte) : State :=
  { s with
    mem := bytes.zipIdx.foldl (fun m x => m.put (s.pc + BitVec.ofNat 32 x.2).toNat x.1) s.mem
    text := [⟨s.pc, bytes.length⟩] }

/-- Data memory of V102 to V113. -/
def loadStart : State :=
  { start with
    admitted := [⟨0, 1⟩, ⟨0x1000, 2⟩, ⟨0x10FF, 1⟩, ⟨0x1FFFF, 1⟩, ⟨0x2010, 1⟩]
    mem := (((((start.mem.putWord 0 0xB0).putWord 0x1000 0xA0).putWord 0x1001 0xA1).putWord 0x10FF 0xAFF).putWord
      0x1FFFF 0xC0).putWord 0x2010 0xD0 }

/-- Data memory of V114 to V121. -/
def storeStart : State :=
  { start with
    admitted := [⟨0x1000, 4⟩, ⟨0x2010, 1⟩]
    mem := ((start.mem.putWord 0x1000 0xA0).putWord 0x1001 0xA1).putWord 0x2010 0xD0 }

/-- Whether an outcome is the fault or the refusal `r`. -/
def isStop (o : Result) (r : Fault ⊕ Refusal) : Bool :=
  match o with
  | .next _ => false
  | .fault f => decide (.inl f = r)
  | .refused f => decide (.inr f = r)

theorem isStop_refused {o : Result} {r : Refusal} (h : isStop o (.inr r) = true) : o = .refused r := by
  cases o <;> simp [isStop] at h ⊢
  exact h

/-- One step from `s` running `bytes` answers a next state of which `f` holds. -/
def gives (s : State) (bytes : List Byte) (f : State → Bool) : Bool :=
  match step (place s bytes) with
  | .next t => f t
  | .fault _ => false
  | .refused _ => false

/-- One step from `s` running `bytes` stops with `r`. -/
def stops (s : State) (bytes : List Byte) (r : Fault ⊕ Refusal) : Bool := isStop (step (place s bytes)) r

/-- One step from `s` running `bytes` pushes the record `r`, leaves the mode `m`, and keeps S, [S], [S-1] and Carry. Where PC goes,
an open parameter, is not looked at. -/
def calls (s : State) (bytes : List Byte) (m : Config.Mode) (r : IfuRecord) : Bool :=
  gives s bytes fun t => t.mode == m && t.ifu == r :: s.ifu && t.sp == s.sp && t.top == s.top && t.second == s.second && t.carry == s.carry

/-- One step from `s` running `bytes` enters a trap: the trapping PC saved, kernel mode (R264). -/
def traps (s : State) (bytes : List Byte) : Bool :=
  calls s bytes .kernel ⟨s.pc, s.fp, s.mode, s.trapsEnabled, s.version⟩

/-- V2 (R103): ADDB 0xFF. -/
theorem test_addb_V2 :
    traps (start.setStack 5 0x7FFFFF01) [0x10, 0xFF] = true := by decide +kernel

/-- V3 (R103): ADDB 0xFF. -/
theorem test_addb_V3 :
    gives (start.setStack 5 0x7FFFFF00) [0x10, 0xFF] (fun t =>
      t.stackAt 5 == 0x7FFFFFFF && t.pc == 0x1002 && t.sp == 5) = true := by decide +kernel

/-- V5 (R104): ADDDB 0xFFFF. -/
theorem test_adddb_V5 :
    gives { (start.setStack 5 0x1) with carry := true } [0x11, 0xFF, 0xFF] (fun t =>
      t.stackAt 5 == 0x10001 && !t.carry && t.pc == 0x1003 && t.sp == 5) = true := by decide +kernel

/-- V6 (R105): ADDQB 0xFFFFFFFF. -/
theorem test_addqb_V6 :
    gives (start.setStack 5 0x5) [0x12, 0xFF, 0xFF, 0xFF, 0xFF] (fun t =>
      t.stackAt 5 == 0x4 && t.pc == 0x1005 && t.sp == 5) = true := by decide +kernel

/-- V7 (R105): ADDQB 0x80000000. -/
theorem test_addqb_V7 :
    traps (start.setStack 5 0x80000000) [0x12, 0x80, 0x00, 0x00, 0x00] = true := by decide +kernel

/-- V8 (R106): ADD. -/
theorem test_add_V8 :
    gives { ((start.setStack 4 0x3).setStack 5 0x4) with carry := true } [0x13] (fun t =>
      t.stackAt 4 == 0x8 && !t.carry && t.pc == 0x1001 && t.sp == 4) = true := by decide +kernel

/-- V9 (R106): ADD. -/
theorem test_add_V9 :
    traps { ((start.setStack 4 0x7FFFFFFF).setStack 5 0x0) with carry := true } [0x13] = true := by decide +kernel

/-- V11 (R107): RADD [S-1], [S-1], [S]-. -/
theorem test_radd_V11 :
    gives { ((start.setStack 4 0xA).setStack 5 0x20) with carry := true } [0x14, 0xEE, 0xDD] (fun t =>
      t.stackAt 4 == 0x2B && !t.carry && t.pc == 0x1003 && t.sp == 4) = true := by decide +kernel

/-- V14 (R107): RADD X2, X0, X1. -/
theorem test_radd_V14 :
    gives ((start.setAux 0 0x7).setAux 1 0x8) [0x14, 0x11, 0x20] (fun t =>
      t.auxAt 2 == 0xF && t.pc == 0x1003 && t.sp == 5) = true := by decide +kernel

/-- V17 (R108): QADD Q2, [S]-. -/
theorem test_qadd_V17 :
    gives (((start.setStack 5 0x64).setConst 0 0x0).setConst 1 0x1) [0x15, 0xAE] (fun t =>
      t.stackAt 6 == 0x64 && t.pc == 0x1002 && t.sp == 5) = true := by decide +kernel

/-- V18 (R108): QADD Q3, C1. -/
theorem test_qadd_V18 :
    gives { (((start.setStack 5 0x64).setConst 0 0x0).setConst 1 0x1) with carry := true } [0x15, 0xE1] (fun t =>
      t.stackAt 6 == 0x3 && !t.carry && t.pc == 0x1002 && t.sp == 6) = true := by decide +kernel

/-- V19 (R109): RUADD [S], [S], [S-1]. -/
theorem test_ruadd_V19 :
    gives ((start.setStack 4 0x1).setStack 5 0xFFFFFFFF) [0x16, 0xED, 0xCC] (fun t =>
      t.stackAt 5 == 0x0 && t.carry && t.pc == 0x1003 && t.sp == 5) = true := by decide +kernel

/-- V20 (R109): RUADD [S], [S], [S-1]. -/
theorem test_ruadd_V20 :
    gives { ((start.setStack 4 0x0).setStack 5 0xFFFFFFFF) with carry := true } [0x16, 0xED, 0xCC] (fun t =>
      t.stackAt 5 == 0x0 && t.pc == 0x1003 && t.sp == 5) = true := by decide +kernel

/-- V22 (R110): RVADD [S], [S], [S-1]. -/
theorem test_rvadd_V22 :
    gives { ((start.setStack 4 0x7FFFFFFF).setStack 5 0x1) with carry := true } [0x17, 0xED, 0xCC] (fun t =>
      t.stackAt 5 == 0x80000000 && t.pc == 0x1003 && t.sp == 5) = true := by decide +kernel

/-- V24 (R111): SUBB 0. -/
theorem test_subb_V24 :
    traps { (start.setStack 5 0x80000000) with carry := true } [0x18, 0x00] = true := by decide +kernel

/-- V25 (R111): SUBB 5. -/
theorem test_subb_V25 :
    gives (start.setStack 5 0x3) [0x18, 0x05] (fun t =>
      t.stackAt 5 == 0xFFFFFFFE && t.pc == 0x1002 && t.sp == 5) = true := by decide +kernel

/-- V26 (R112): SUBDB 0x8000. -/
theorem test_subdb_V26 :
    gives { (start.setStack 5 0x8000) with carry := true } [0x19, 0x80, 0x00] (fun t =>
      t.stackAt 5 == 0xFFFFFFFF && !t.carry && t.pc == 0x1003 && t.sp == 5) = true := by decide +kernel

/-- V27 (R113): SUBQB 0x80000000. -/
theorem test_subqb_V27 :
    traps (start.setStack 5 0x0) [0x1A, 0x80, 0x00, 0x00, 0x00] = true := by decide +kernel

/-- V28 (R113): SUBQB 0x80000000. -/
theorem test_subqb_V28 :
    gives (start.setStack 5 0xFFFFFFFF) [0x1A, 0x80, 0x00, 0x00, 0x00] (fun t =>
      t.stackAt 5 == 0x7FFFFFFF && t.pc == 0x1005 && t.sp == 5) = true := by decide +kernel

/-- V29 (R114): SUB. -/
theorem test_sub_V29 :
    gives { ((start.setStack 4 0xA).setStack 5 0x3) with carry := true } [0x1B] (fun t =>
      t.stackAt 4 == 0x6 && !t.carry && t.pc == 0x1001 && t.sp == 4) = true := by decide +kernel

/-- V30 (R115): RSUB L0, L0, L0. -/
theorem test_rsub_V30 :
    gives (start.setStack 20 0x4D) [0x1C, 0x00, 0x00] (fun t =>
      t.stackAt 20 == 0x0 && t.pc == 0x1003 && t.sp == 5) = true := by decide +kernel

/-- V31 (R116): QSUB Q1, C1. -/
theorem test_qsub_V31 :
    gives ((start.setStack 5 0x0).setConst 1 0x1) [0x1D, 0x61] (fun t =>
      t.stackAt 6 == 0xFFFFFFFF && t.pc == 0x1002 && t.sp == 6) = true := by decide +kernel

/-- V32 (R117): RUSUB [S], [S-1], [S]. -/
theorem test_rusub_V32 :
    gives ((start.setStack 4 0x0).setStack 5 0x1) [0x1E, 0xEC, 0xCD] (fun t =>
      t.stackAt 5 == 0xFFFFFFFF && t.carry && t.pc == 0x1003 && t.sp == 5) = true := by decide +kernel

/-- V33 (R117): RUSUB [S], [S-1], [S]. -/
theorem test_rusub_V33 :
    gives { ((start.setStack 4 0x5).setStack 5 0x5) with carry := true } [0x1E, 0xEC, 0xCD] (fun t =>
      t.stackAt 5 == 0xFFFFFFFF && t.pc == 0x1003 && t.sp == 5) = true := by decide +kernel

/-- V36 (R118): RVSUB [S], [S-1], [S]. -/
theorem test_rvsub_V36 :
    gives { ((start.setStack 4 0x0).setStack 5 0x1) with carry := true } [0x1F, 0xEC, 0xCD] (fun t =>
      t.stackAt 5 == 0xFFFFFFFF && t.pc == 0x1003 && t.sp == 5) = true := by decide +kernel

/-- V37 (R120): AND. -/
theorem test_and_V37 :
    gives { ((start.setStack 4 0xF0F0FF00).setStack 5 0xFF0F0F0) with carry := true } [0x20] (fun t =>
      t.stackAt 4 == 0xF0F000 && t.pc == 0x1001 && t.sp == 4) = true := by decide +kernel

/-- V38 (R121): RAND L1, L1, C2. -/
theorem test_rand_V38 :
    gives ((start.setStack 21 0x12345678).setConst 2 0xFF) [0x21, 0x22, 0x11] (fun t =>
      t.stackAt 21 == 0x78 && t.pc == 0x1003 && t.sp == 5) = true := by decide +kernel

/-- V39 (R122): QAND Q0, C2. -/
theorem test_qand_V39 :
    gives ((start.setStack 5 0x12345678).setConst 2 0xFF00) [0x22, 0x22] (fun t =>
      t.stackAt 5 == 0x5600 && t.pc == 0x1002 && t.sp == 5) = true := by decide +kernel

/-- V40 (R123): OR. -/
theorem test_or_V40 :
    gives ((start.setStack 4 0xF0F0FF00).setStack 5 0xFF0F0F0) [0x23] (fun t =>
      t.stackAt 4 == 0xFFF0FFF0 && t.pc == 0x1001 && t.sp == 4) = true := by decide +kernel

/-- V41 (R124): ROR [S+1]+, [S], [S-1]. -/
theorem test_ror_V41 :
    gives ((start.setStack 4 0xF).setStack 5 0xF0) [0x24, 0xED, 0xEC] (fun t =>
      t.stackAt 6 == 0xFF && t.pc == 0x1003 && t.sp == 6) = true := by decide +kernel

/-- V42 (R125): QOR Q2, [S]. -/
theorem test_qor_V42 :
    gives ((start.setStack 5 0xA0).setConst 0 0x5) [0x25, 0xAC] (fun t =>
      t.stackAt 6 == 0xA5 && t.pc == 0x1002 && t.sp == 6) = true := by decide +kernel

/-- V44 (R126): RXOR [S-1], [S-1], [S]-. -/
theorem test_rxor_V44 :
    gives ((start.setStack 4 0xFFFF0000).setStack 5 0xFF00FF00) [0x26, 0xEE, 0xDD] (fun t =>
      t.stackAt 4 == 0xFFFF00 && t.pc == 0x1003 && t.sp == 4) = true := by decide +kernel

/-- V46 (R132): SHL <0, 32, 32>. -/
theorem test_shl_V46 :
    gives (start.setStack 5 0xFF) [0x28, 0x08, 0x20] (fun t =>
      t.stackAt 5 == 0x0 && t.pc == 0x1003 && t.sp == 5) = true := by decide +kernel

/-- V48 (R132): SHL <0, 8, 4>. -/
theorem test_shl_V48 :
    gives (start.setStack 5 0xABC) [0x28, 0x02, 0x04] (fun t =>
      t.stackAt 5 == 0xC0 && t.pc == 0x1003 && t.sp == 5) = true := by decide +kernel

/-- V51 (R133): SHR <0, 28, 28>. -/
theorem test_shr_V51 :
    gives (start.setStack 5 0x12345678) [0x29, 0x07, 0x1C] (fun t =>
      t.stackAt 5 == 0x1234567 && t.pc == 0x1003 && t.sp == 5) = true := by decide +kernel

/-- V52 (R133): SHR <0, 32, 8>. -/
theorem test_shr_V52 :
    gives (start.setStack 5 0x12345678) [0x29, 0x08, 0x08] (fun t =>
      t.stackAt 5 == 0x34567812 && t.pc == 0x1003 && t.sp == 5) = true := by decide +kernel

/-- V56 (R134): SHDL <1, 8, 8>. -/
theorem test_shdl_V56 :
    gives ((start.setStack 4 0xAB).setStack 5 0x11223344) [0x2A, 0x12, 0x08] (fun t =>
      t.stackAt 4 == 0x1122AB44 && t.pc == 0x1003 && t.sp == 4) = true := by decide +kernel

/-- V57 (R134): SHDL <1, 8, 28>. -/
theorem test_shdl_V57 :
    gives ((start.setStack 4 0xAB).setStack 5 0x11223344) [0x2A, 0x12, 0x1C] (fun t =>
      t.stackAt 4 == 0xB1223344 && t.pc == 0x1003 && t.sp == 4) = true := by decide +kernel

/-- V59 (R135): SHDR <0, 32, 24>. -/
theorem test_shdr_V59 :
    gives ((start.setStack 4 0x11223344).setStack 5 0xAABBCCDD) [0x2B, 0x08, 0x18] (fun t =>
      t.stackAt 4 == 0xDD112233 && t.pc == 0x1003 && t.sp == 4) = true := by decide +kernel

/-- V61 (R136): FSDB <0, 8, 0>. -/
theorem test_fsdb_V61 :
    gives (start.setStack 5 0x18) [0x2C, 0x02, 0x00] (fun t =>
      t.pc == 0x1003 && t.field == 0x218 && t.sp == 4) = true := by decide +kernel

/-- V63 (R137): RFU L0, L1, L2. -/
theorem test_rfu_V63 :
    gives { ((start.setStack 21 0xAB).setStack 22 0x11223344) with field := 0x1208 } [0x2D, 0x02, 0x01] (fun t =>
      t.stackAt 20 == 0x1122AB44 && t.pc == 0x1003 && t.sp == 5) = true := by decide +kernel

/-- V64 (R137): RFU [S], [S], [S]. -/
theorem test_rfu_V64 :
    stops { (start.setStack 5 0x1) with field := 0x10218 } [0x2D, 0xEC, 0xCC] (.inr .fieldDescriptor) = true := by decide +kernel

/-- V66 (R140): J1. -/
theorem test_j1_V66 :
    gives start [0x30] (fun t => t.pc == 0x1001 && t.sp == 5) = true := by decide +kernel

/-- V67 (R141): J2. -/
theorem test_j2_V67 :
    gives start [0x31, 0xAB] (fun t => t.pc == 0x1002 && t.sp == 5) = true := by decide +kernel

/-- V68 (R142): J3. -/
theorem test_j3_V68 :
    gives start [0x32, 0xAB, 0xCD] (fun t => t.pc == 0x1003 && t.sp == 5) = true := by decide +kernel

/-- V69 (R143): J5. -/
theorem test_j5_V69 :
    gives start [0x33, 0xDE, 0xAD, 0xBE, 0xEF] (fun t => t.pc == 0x1005 && t.sp == 5) = true := by decide +kernel

/-- V70 (R144): LIB 0xFF. -/
theorem test_lib_V70 :
    gives start [0x34, 0xFF] (fun t => t.stackAt 6 == 0xFF && t.pc == 0x1002 && t.sp == 6) = true := by decide +kernel

/-- V71 (R145): LIDB 0x8001. -/
theorem test_lidb_V71 :
    gives start [0x35, 0x80, 0x01] (fun t => t.stackAt 6 == 0x8001 && t.pc == 0x1003 && t.sp == 6) = true := by decide +kernel

/-- V72 (R146): LIQB 0x80000001. -/
theorem test_liqb_V72 :
    gives start [0x36, 0x80, 0x00, 0x00, 0x01] (fun t =>
      t.stackAt 6 == 0x80000001 && t.pc == 0x1005 && t.sp == 6) = true := by decide +kernel

/-- V74 (R147): LC11. -/
theorem test_lc11_V74 :
    gives { (start.setConst 11 0x7) with sp := 127 } [0x4B] (fun t =>
      t.stackAt 0 == 0x7 && t.pc == 0x1001 && t.sp == 0) = true := by decide +kernel

/-- V77 (R153): LFC -0x10. -/
theorem test_lfc_V77 :
    gives start [0x50, 0xFF, 0xF0] (fun t =>
      t.pc == 0xFF0 && t.ifu == [⟨0x1003, 20, .user, false, 0⟩] && t.sp == 5) = true := by decide +kernel

/-- V78 (R154): DFC 0x20000. -/
theorem test_dfc_V78 :
    gives start [0x51, 0x00, 0x02, 0x00, 0x00] (fun t =>
      t.pc == 0x20000 && t.ifu == [⟨0x1005, 20, .user, false, 0⟩] && t.sp == 5) = true := by decide +kernel

/-- V79 (R155): SFC. -/
theorem test_sfc_V79 :
    gives (start.setStack 5 0x3000) [0x52] (fun t =>
      t.pc == 0x3000 && t.ifu == [⟨0x1001, 20, .user, false, 0⟩] && t.sp == 4) = true := by decide +kernel

/-- V81 (R157): KFC. -/
theorem test_kfc_V81 :
    calls start [0x54] .kernel ⟨0x1001, 20, .user, false, 0⟩ = true := by decide +kernel

/-- V82 (R158): RETN. -/
theorem test_retn_V82 :
    gives { start with ifu := [⟨0x1003, 17, .user, false, 0⟩], fp := 30, pc := 0x2000 } [0x55] (fun t =>
      t.fp == 17 && t.pc == 0x1003 && t.ifu == [] && t.sp == 5) = true := by decide +kernel

/-- V83 (R158): RETN. -/
theorem test_retn_V83 :
    stops { start with pc := 0x2000 } [0x55] (.inl .ifuUnderflow) = true := by decide +kernel

/-- V84 (R159): RET 2. -/
theorem test_ret_V84 :
    gives { start with ifu := [⟨0x1003, 17, .user, false, 0⟩], sp := 40, fp := 30, pc := 0x2000 } [0x56, 0x02] (fun t =>
      t.fp == 17 && t.pc == 0x1003 && t.ifu == [] && t.sp == 32) = true := by decide +kernel

/-- V85 (R159): RET 0xFF. -/
theorem test_ret_V85 :
    gives { start with ifu := [⟨0x1003, 17, .kernel, false, 0⟩], sp := 40, fp := 30, pc := 0x2000 } [0x56, 0xFF] (fun t =>
      t.fp == 17 && t.pc == 0x1003 && t.mode == .kernel && t.ifu == [] && t.sp == 29) = true := by decide +kernel

/-- V87 (R166): DIS. -/
theorem test_dis_V87 :
    gives { start with sp := 0 } [0x58] (fun t => t.pc == 0x1001 && t.sp == 127) = true := by decide +kernel

/-- V89 (R167): AS 0xFE. -/
theorem test_as_V89 :
    gives start [0x59, 0xFE] (fun t => t.pc == 0x1002 && t.sp == 3) = true := by decide +kernel

/-- V92 (R168): ASL 0xFF. -/
theorem test_asl_V92 :
    gives start [0x5A, 0xFF] (fun t => t.pc == 0x1002 && t.sp == 19) = true := by decide +kernel

/-- V93 (R169): ALS 0xFD. -/
theorem test_als_V93 :
    gives start [0x5B, 0xFD] (fun t => t.fp == 2 && t.pc == 0x1002 && t.sp == 5) = true := by decide +kernel

/-- V95 (R170): AL 0xF0. -/
theorem test_al_V95 :
    gives { start with fp := 3 } [0x5C, 0xF0] (fun t => t.fp == 115 && t.pc == 0x1002 && t.sp == 5) = true := by decide +kernel

/-- V96 (R171): DUP. -/
theorem test_dup_V96 :
    gives (start.setStack 5 0xAA) [0x5E] (fun t =>
      t.stackAt 6 == 0xAA && t.pc == 0x1001 && t.sp == 6) = true := by decide +kernel

/-- V97 (R172): EXDIS. -/
theorem test_exdis_V97 :
    gives ((start.setStack 4 0x1).setStack 5 0x2) [0x5F] (fun t =>
      t.stackAt 4 == 0x2 && t.pc == 0x1001 && t.sp == 4) = true := by decide +kernel

/-- V99 (R173): LR0. -/
theorem test_lr0_V99 :
    gives { (start.setStack 6 0x66) with fp := 6 } [0x60] (fun t => t.pc == 0x1001 && t.sp == 6) = true := by decide +kernel

/-- V101 (R174): SR15. -/
theorem test_sr15_V101 :
    gives { (start.setStack 5 0x55) with fp := 120 } [0x7F] (fun t =>
      t.stackAt 7 == 0x55 && t.pc == 0x1001 && t.sp == 4) = true := by decide +kernel

/-- V102 (R181): RRX L2, L0, L1. -/
theorem test_rrx_V102 :
    gives ((loadStart.setStack 20 0x1000).setStack 21 0x1) [0x80, 0x01, 0x20] (fun t =>
      t.stackAt 22 == 0xA1 && t.pc == 0x1003 && t.sp == 5) = true := by decide +kernel

/-- V103 (R181): RRX [S-1], [S-1], [S]-. -/
theorem test_rrx_V103 :
    gives ((loadStart.setStack 4 0xFFFFFFFF).setStack 5 0x1) [0x80, 0xEE, 0xDD] (fun t =>
      t.stackAt 4 == 0xB0 && t.pc == 0x1003 && t.sp == 4) = true := by decide +kernel

/-- V104 (R182): QRX Q0, C1. -/
theorem test_qrx_V104 :
    gives ((loadStart.setStack 5 0x1000).setConst 1 0x1) [0x81, 0x21] (fun t =>
      t.stackAt 5 == 0xA1 && t.pc == 0x1002 && t.sp == 5) = true := by decide +kernel

/-- V105 (R182): QRX Q1, L0. -/
theorem test_qrx_V105 :
    gives ((loadStart.setStack 5 0x1000).setStack 20 0xFF) [0x81, 0x40] (fun t =>
      t.stackAt 6 == 0xAFF && t.pc == 0x1002 && t.sp == 6) = true := by decide +kernel

/-- V106 (R183): RB 0xFF. -/
theorem test_rb_V106 :
    gives (loadStart.setStack 5 0x1000) [0x82, 0xFF] (fun t =>
      t.stackAt 5 == 0xAFF && t.pc == 0x1002 && t.sp == 5) = true := by decide +kernel

/-- V107 (R183): RB 2. -/
theorem test_rb_V107 :
    stops (loadStart.setStack 5 0x1000) [0x82, 0x02] (.inl .memoryNotAdmitted) = true := by decide +kernel

/-- V108 (R184): RSB 1. -/
theorem test_rsb_V108 :
    gives (loadStart.setStack 5 0x1000) [0x83, 0x01] (fun t =>
      t.stackAt 6 == 0xA1 && t.pc == 0x1002 && t.sp == 6) = true := by decide +kernel

/-- V109 (R185): RX. -/
theorem test_rx_V109 :
    gives ((loadStart.setStack 4 0x1000).setStack 5 0xFF) [0x84] (fun t =>
      t.stackAt 4 == 0xAFF && t.pc == 0x1001 && t.sp == 4) = true := by decide +kernel

/-- V111 (R187): RRI 3, 1, 0x10. -/
theorem test_rri_V111 :
    gives (loadStart.setStack 21 0x2000) [0x85, 0x31, 0x10] (fun t =>
      t.stackAt 23 == 0xD0 && t.pc == 0x1003 && t.sp == 5) = true := by decide +kernel

/-- V112 (R188): RAI 3, 1, 0x10. -/
theorem test_rai_V112 :
    gives (loadStart.setAux 1 0x2000) [0x86, 0x31, 0x10] (fun t =>
      t.stackAt 23 == 0xD0 && t.pc == 0x1003 && t.sp == 5) = true := by decide +kernel

/-- V113 (R189): LGF 0xFFFF. -/
theorem test_lgf_V113 :
    gives (loadStart.setAux 0 0x10000) [0x87, 0xFF, 0xFF] (fun t =>
      t.stackAt 6 == 0xC0 && t.pc == 0x1003 && t.sp == 6) = true := by decide +kernel

/-- V114 (R196): WB 1. -/
theorem test_wb_V114 :
    gives ((storeStart.setStack 4 0x77).setStack 5 0x1000) [0xA0, 0x01] (fun t =>
      t.mem.word 0x1001 == some 0x77 && t.pc == 0x1002 && t.sp == 3) = true := by decide +kernel

/-- V115 (R197): WSB 1. -/
theorem test_wsb_V115 :
    gives ((storeStart.setStack 4 0x1000).setStack 5 0x77) [0xA1, 0x01] (fun t =>
      t.mem.word 0x1001 == some 0x77 && t.pc == 0x1002 && t.sp == 3) = true := by decide +kernel

/-- V116 (R198): PSB 1. -/
theorem test_psb_V116 :
    gives ((storeStart.setStack 4 0x1000).setStack 5 0x77) [0xA2, 0x01] (fun t =>
      t.mem.word 0x1001 == some 0x77 && t.pc == 0x1002 && t.sp == 4) = true := by decide +kernel

/-- V118 (R200): WRI 3, 1, 0x10. -/
theorem test_wri_V118 :
    gives ((storeStart.setStack 21 0x2000).setStack 23 0x99) [0xA3, 0x31, 0x10] (fun t =>
      t.mem.word 0x2010 == some 0x99 && t.pc == 0x1003 && t.sp == 5) = true := by decide +kernel

/-- V119 (R201): WAI 3, 1, 0x10. -/
theorem test_wai_V119 :
    gives ((storeStart.setStack 23 0x99).setAux 1 0x2000) [0xA4, 0x31, 0x10] (fun t =>
      t.mem.word 0x2010 == some 0x99 && t.pc == 0x1003 && t.sp == 5) = true := by decide +kernel

/-- V120 (R202): CST 1. -/
theorem test_cst_V120 :
    gives (((storeStart.setStack 3 0x1000).setStack 4 0x22).setStack 5 0xA1) [0xA5, 0x01] (fun t =>
      t.stackAt 6 == 0xA1 && t.mem.word 0x1001 == some 0x22 && t.pc == 0x1002 && t.sp == 6) = true := by decide +kernel

/-- V121 (R202): CST 1. -/
theorem test_cst_V121 :
    gives (((storeStart.setStack 3 0x1000).setStack 4 0x22).setStack 5 0xFF) [0xA5, 0x01] (fun t =>
      t.stackAt 6 == 0xA1 && t.pc == 0x1002 && t.sp == 6) = true := by decide +kernel

/-- V123 (R211): JB -2. -/
theorem test_jb_V123 :
    gives start [0xC0, 0xFE] (fun t => t.pc == 0xFFE && t.sp == 5) = true := by decide +kernel

/-- V127 (R212): JDB -0x8000. -/
theorem test_jdb_V127 :
    gives { start with pc := 0x10000 } [0xC1, 0x80, 0x00] (fun t => t.pc == 0x8000 && t.sp == 5) = true := by decide +kernel

/-- V128 (R212): JDB -1. -/
theorem test_jdb_V128 :
    gives { start with pc := 0x0 } [0xC1, 0xFF, 0xFF] (fun t => t.pc == 0xFFFFFFFF && t.sp == 5) = true := by decide +kernel

/-- V129 (R213): JQB 0x20000. -/
theorem test_jqb_V129 :
    gives start [0xC2, 0x00, 0x02, 0x00, 0x00] (fun t => t.pc == 0x20000 && t.sp == 5) = true := by decide +kernel

/-- V130 (R214): JSD. -/
theorem test_jsd_V130 :
    gives (start.setStack 5 0x3000) [0xC3] (fun t => t.pc == 0x3000 && t.sp == 4) = true := by decide +kernel

/-- V132 (R215): JSR. -/
theorem test_jsr_V132 :
    gives (start.setStack 5 0xFFFFFFF0) [0xC4] (fun t => t.pc == 0xFF0 && t.sp == 4) = true := by decide +kernel

/-- V133 (R218): JEBB 5, +0x10. -/
theorem test_jebb_V133 :
    gives (start.setStack 5 0x5) [0xD0, 0x05, 0x10] (fun t => t.pc == 0x1010 && t.sp == 4) = true := by decide +kernel

/-- V135 (R218): JEBB 0xFF, +0x10. -/
theorem test_jebb_V135 :
    gives (start.setStack 5 0xFFFFFFFF) [0xD0, 0xFF, 0x10] (fun t => t.pc == 0x1003 && t.sp == 4) = true := by decide +kernel

/-- V136 (R218): JEBBJ 5, -0x10. -/
theorem test_jebbj_V136 :
    gives (start.setStack 5 0x5) [0xD1, 0x05, 0xF0] (fun t => t.pc == 0xFF0 && t.sp == 4) = true := by decide +kernel

/-- V137 (R219): JNEBB 0, -9. -/
theorem test_jnebb_V137 :
    gives (start.setStack 5 0x3) [0xD2, 0x00, 0xF7] (fun t => t.pc == 0xFF7 && t.sp == 4) = true := by decide +kernel

/-- V138 (R219): JNEBB 0, -9. -/
theorem test_jnebb_V138 :
    gives (start.setStack 5 0x0) [0xD2, 0x00, 0xF7] (fun t => t.pc == 0x1003 && t.sp == 4) = true := by decide +kernel

/-- V139 (R219): JNEBBJ 0, -9. -/
theorem test_jnebbj_V139 :
    gives (start.setStack 5 0x0) [0xD3, 0x00, 0xF7] (fun t => t.pc == 0x1003 && t.sp == 4) = true := by decide +kernel

/-- V141 (R220): RJLB T0, L0, +0x20. -/
theorem test_rjlb_V141 :
    gives ((start.setStack 5 0x0).setStack 20 0xFFFFFFFF) [0xD4, 0x00, 0x20] (fun t =>
      t.pc == 0x1003 && t.sp == 5) = true := by decide +kernel

/-- V142 (R220): RJLB T1, L0, +0x20. -/
theorem test_rjlb_V142 :
    gives ((start.setStack 5 0x1).setStack 20 0x2) [0xD4, 0x40, 0x20] (fun t =>
      t.pc == 0x1020 && t.sp == 4) = true := by decide +kernel

/-- V145 (R220): RJLBJ T0, L0, +0x20. -/
theorem test_rjlbj_V145 :
    gives ((start.setStack 5 0xFFFFFFFF).setStack 20 0x0) [0xD5, 0x00, 0x20] (fun t =>
      t.pc == 0x1020 && t.sp == 5) = true := by decide +kernel

/-- V146 (R221): RJLEB T0, L0, +0x20. -/
theorem test_rjleb_V146 :
    gives ((start.setStack 5 0x5).setStack 20 0x5) [0xD6, 0x00, 0x20] (fun t =>
      t.pc == 0x1020 && t.sp == 5) = true := by decide +kernel

/-- V147 (R221): RJLEB T0, L0, +0x20. -/
theorem test_rjleb_V147 :
    gives ((start.setStack 5 0x6).setStack 20 0x5) [0xD6, 0x00, 0x20] (fun t =>
      t.pc == 0x1003 && t.sp == 5) = true := by decide +kernel

/-- V148 (R222): RJEB T0, L0, +0x20. -/
theorem test_rjeb_V148 :
    gives ((start.setStack 5 0x5).setStack 20 0x5) [0xD8, 0x00, 0x20] (fun t =>
      t.pc == 0x1020 && t.sp == 5) = true := by decide +kernel

/-- V149 (R222): RJEB T1, [S-1]-, +8. -/
theorem test_rjeb_V149 :
    gives ((start.setStack 4 0x9).setStack 5 0x9) [0xD8, 0x6F, 0x08] (fun t =>
      t.pc == 0x1008 && t.sp == 3) = true := by decide +kernel

/-- V150 (R223): RJNEB T0, L0, +0x20. -/
theorem test_rjneb_V150 :
    gives ((start.setStack 5 0x5).setStack 20 0x5) [0xDA, 0x00, 0x20] (fun t =>
      t.pc == 0x1003 && t.sp == 5) = true := by decide +kernel

/-- V151 (R223): RJNEB T0, L0, +0x20. -/
theorem test_rjneb_V151 :
    gives ((start.setStack 5 0x5).setStack 20 0x4) [0xDA, 0x00, 0x20] (fun t =>
      t.pc == 0x1020 && t.sp == 5) = true := by decide +kernel

/-- V152 (R224): RJGEB T0, L0, +0x20. -/
theorem test_rjgeb_V152 :
    gives ((start.setStack 5 0x80000000).setStack 20 0x7FFFFFFF) [0xDC, 0x00, 0x20] (fun t =>
      t.pc == 0x1003 && t.sp == 5) = true := by decide +kernel

/-- V153 (R224): RJGEBJ T2, [S], -4. -/
theorem test_rjgebj_V153 :
    gives ((start.setStack 5 0xFFFFFFFF).setConst 0 0x0) [0xDD, 0xAC, 0xFC] (fun t =>
      t.pc == 0xFFC && t.sp == 5) = true := by decide +kernel

/-- V155 (R225): RJGB T0, L0, +0x20. -/
theorem test_rjgb_V155 :
    gives ((start.setStack 5 0x1).setStack 20 0x1) [0xDE, 0x00, 0x20] (fun t =>
      t.pc == 0x1003 && t.sp == 5) = true := by decide +kernel

/-- V156 (R225): RJGB T3, [S]-, +8. -/
theorem test_rjgb_V156 :
    gives ((start.setStack 5 0x0).setConst 1 0x1) [0xDE, 0xEE, 0x08] (fun t =>
      t.pc == 0x1008 && t.sp == 4) = true := by decide +kernel

/-- V159 (R231): RBC L2, L0, L1. -/
theorem test_rbc_V159 :
    traps ((start.setStack 20 0xFFFFFFFF).setStack 21 0xA) [0xE0, 0x01, 0x20] = true := by decide +kernel

/-- V160 (R231): RBC [S-1], [S-1], [S]-. -/
theorem test_rbc_V160 :
    gives ((start.setStack 4 0x3).setStack 5 0xA) [0xE0, 0xEE, 0xDD] (fun t =>
      t.pc == 0x1003 && t.sp == 4) = true := by decide +kernel

/-- V165 (R232): BC. -/
theorem test_bc_V165 :
    traps ((start.setStack 4 0x0).setStack 5 0x0) [0xE1] = true := by decide +kernel

/-- V166 (R232): BC. -/
theorem test_bc_V166 :
    gives ((start.setStack 4 0x80000000).setStack 5 0xFFFFFFFF) [0xE1] (fun t =>
      t.pc == 0x1001 && t.sp == 4) = true := by decide +kernel

/-- V168 (R233): QBC Q1, L0. -/
theorem test_qbc_V168 :
    gives ((start.setStack 5 0x3).setStack 20 0x4) [0xE2, 0x40] (fun t =>
      t.stackAt 6 == 0x3 && t.pc == 0x1002 && t.sp == 6) = true := by decide +kernel

/-- V171 (R233): QBC Q3, [S]. -/
theorem test_qbc_V171 :
    traps ((start.setStack 5 0x1).setConst 1 0x1) [0xE2, 0xEC] = true := by decide +kernel

/-- V181 (R247): LIP 7. -/
theorem test_lip_V181 :
    gives (start.setProc 7 0x1234) [0xF0, 0x07] (fun t =>
      t.stackAt 6 == 0x1234 && t.pc == 0x1002 && t.sp == 6) = true := by decide +kernel

/-- V183 (R248): SIP 0xFF. -/
theorem test_sip_V183 :
    gives (start.setStack 5 0xABCD) [0xF1, 0xFF] (fun t =>
      t.procAt 255 == 0xABCD && t.pc == 0x1002 && t.sp == 4) = true := by decide +kernel

/-- V80 (R156): SFCI, its pointer moved from word 400, which holds the instruction itself, to word 800. -/
theorem test_sfci_V80 :
    gives { start.setStack 5 0x800 with mem := start.mem.putWord 0x800 0x5000 } [0x53] (fun t =>
      t.pc == 0x5000 && t.ifu == [⟨0x1001, 20, .user, false, 0⟩] && t.sp == 5) = true := by decide +kernel

/-- A pointer to a word nothing has written stops SFCI (R40, R156). -/
theorem test_sfci_unwritten : stops (start.setStack 5 0x800) [0x53] (.inl .unwritten) = true := by decide +kernel

/-! The opcode families with a register number in the opcode -/

/-- LC0 to LC11 (R147). -/
theorem test_lc :
    (List.range 12).all (fun m => gives { start with consts := Vector.ofFn fun i => BitVec.ofNat 32 (700 + i.val) }
      [BitVec.ofNat 8 (0x40 + m)] fun t => t.stackAt 6 == BitVec.ofNat 32 (700 + m) && t.sp == 6 && t.pc == 0x1001) = true := by
  decide +kernel

/-- LR0 to LR15 at L = 120, so that L + n wraps (R173). -/
theorem test_lr :
    (List.range 16).all (fun n => gives { start.setStack (BitVec.ofNat 7 (120 + n)) (BitVec.ofNat 32 (900 + n)) with fp := 120 }
      [BitVec.ofNat 8 (0x60 + n)] fun t => t.stackAt 6 == BitVec.ofNat 32 (900 + n) && t.sp == 6 && t.pc == 0x1001) = true := by
  decide +kernel

/-- SR0 to SR15 at L = 120 (R174). -/
theorem test_sr :
    (List.range 16).all (fun n => gives { start.setStack 5 905 with fp := 120 } [BitVec.ofNat 8 (0x70 + n)] fun t =>
      t.stackAt (BitVec.ofNat 7 (120 + n)) == 905 && t.sp == 4 && t.pc == 0x1001) = true := by decide +kernel

/-- LRI0 to LRI15: Locals[n] points n words below the word 2010 (R186). -/
theorem test_lri :
    (List.range 16).all (fun n => gives (loadStart.setStack (BitVec.ofNat 7 (20 + n)) (BitVec.ofNat 32 (0x2010 - n)))
      [BitVec.ofNat 8 (0x90 + n), BitVec.ofNat 8 n] fun t => t.stackAt 6 == 0xD0 && t.sp == 6 && t.pc == 0x1002) = true := by
  decide +kernel

/-- SRI0 to SRI15 (R199). -/
theorem test_sri :
    (List.range 16).all (fun n => gives ((storeStart.setStack (BitVec.ofNat 7 (20 + n)) (BitVec.ofNat 32 (0x2010 - n))).setStack 5 0x77)
      [BitVec.ofNat 8 (0xB0 + n), BitVec.ofNat 8 n] fun t => t.mem.word 0x2010 == some 0x77 && t.sp == 4 && t.pc == 0x1002) = true := by
  decide +kernel

/-- RJLEBJ, RJEBJ, RJNEBJ, RJGBJ at T = -1, Locals[0] = 0: the signed order (R217, R221, R222, R223, R225). -/
theorem test_jump_j_forms :
    [((0xD7 : Byte), (0x1020 : Word)), (0xD9, 0x1003), (0xDB, 0x1020), (0xDF, 0x1003)].all (fun p =>
      gives (start.setStack 5 0xFFFFFFFF) [p.1, 0x00, 0x20] fun t => t.pc == p.2 && t.sp == 5) = true := by decide +kernel

/-! Lisp, with LISP_NAN false for the operands shown: what is written, at which length -/

/-- What a Lisp instruction writes where LISP_NAN is false (R235). -/
theorem lisp_of_false {s : State} {x y r : Word} (k : Word → State) (h : Config.lispNaN x y r = false) :
    s.lisp x y r k = .next ((k r).setCarry false) := by
  simp [State.lisp, h]

/-- V173 (R236): top plus next-to-top wraps without a trap, Carry is not added and is cleared. -/
theorem test_ladd_V173 (s : State) (h1 : s.second = 0x7FFFFFFF) (h2 : s.top = 1) (h : Config.lispNaN 1 0x7FFFFFFF 0x80000000 = false) :
    exec .ladd s = .next ((s.combine 0x80000000 1).setCarry false) := by
  simp only [exec, execLadd, h1, h2]
  exact lisp_of_false _ h

/-- V174 (R237). -/
theorem test_qladd_V174 (s : State) (h1 : s.top = 0xA) (h2 : s.constAt 1 = 1) (h : Config.lispNaN 0xA 1 0xB = false) :
    exec (.qladd ⟨.topToTop, .locals, .const 1⟩) s =
      .next ((s.finishQR ⟨.topToTop, .locals, .const 1⟩ 0xB).setCarry false) := by
  simp only [exec, execQladd, State.qs, State.qrb, State.readQ, State.read, h1, h2]
  exact lisp_of_false _ h

/-- V176 (R238). -/
theorem test_rladd_V176 (s : State) (h1 : s.localAt 0 = 0xFFFFFFFF) (h2 : s.localAt 1 = 2) (h : Config.lispNaN 0xFFFFFFFF 2 1 = false) :
    exec (.rladd ⟨.locals, .reg 0, .reg 1, .reg 2⟩) s =
      .next ((s.finishRRR ⟨.locals, .reg 0, .reg 1, .reg 2⟩ 1).setCarry false) := by
  simp only [exec, execRladd, State.ra, State.rb, State.read, State.regAt, h1, h2]
  exact lisp_of_false _ h

/-- V178 (R239): next-to-top minus top. -/
theorem test_lsub_V178 (s : State) (h1 : s.second = 0) (h2 : s.top = 1) (h : Config.lispNaN 0 1 0xFFFFFFFF = false) :
    exec .lsub s = .next ((s.combine 0xFFFFFFFF 1).setCarry false) := by
  simp only [exec, execLsub, h1, h2]
  exact lisp_of_false _ h

/-- V179 (R240). -/
theorem test_qlsub_V179 (s : State) (h1 : s.top = 0xA) (h2 : s.constAt 1 = 1) (h : Config.lispNaN 0xA 1 9 = false) :
    exec (.qlsub ⟨.topToTop, .locals, .const 1⟩) s =
      .next ((s.finishQR ⟨.topToTop, .locals, .const 1⟩ 9).setCarry false) := by
  simp only [exec, execQlsub, State.qs, State.qrb, State.readQ, State.read, h1, h2]
  exact lisp_of_false _ h

/-- V180 (R241). -/
theorem test_rlsub_V180 (s : State) (h1 : s.localAt 0 = 5) (h2 : s.localAt 1 = 7) (h : Config.lispNaN 5 7 0xFFFFFFFE = false) :
    exec (.rlsub ⟨.locals, .reg 0, .reg 1, .reg 2⟩) s =
      .next ((s.finishRRR ⟨.locals, .reg 0, .reg 1, .reg 2⟩ 0xFFFFFFFE).setCarry false) := by
  simp only [exec, execRlsub, State.ra, State.rb, State.read, State.regAt, h1, h2]
  exact lisp_of_false _ h

/-! I/O, on a platform where command 01 reads and command 02 writes (V184 to V190) -/

/-- V184 (R249): IOD reads and pushes. -/
theorem test_iod_V184 (s : State) (h : Config.isRead 1#8 = true) (h' : Config.isWrite 1#8 = false)
    (v : Config.ioRead s.io 0x10#32 1#8 = 0x5A) :
    exec (.iod ⟨0x10, 1⟩) s = .next { s.push 0x5A 3 with io := .read 0x10 1 :: s.io } := by
  simp [exec, execIod, State.dispatch, State.advance, State.push, zext8, h, h', v]

/-- V185 (R249): IOD sends the top and pops. -/
theorem test_iod_V185 (s : State) (h : Config.isRead 2#8 = false) (h' : Config.isWrite 2#8 = true) :
    exec (.iod ⟨0x10, 2⟩) s = .next { s with sp := s.sp + -1, pc := s.pc + 3, io := .write 0x10 s.top 2 :: s.io } := by
  simp [exec, execIod, State.dispatch, State.advance, zext8, h, h']

/-- V187 (R250): IODA reads at literal plus top and replaces the top. -/
theorem test_ioda_V187 (s : State) (h : Config.isRead 1#8 = true) (h' : Config.isWrite 1#8 = false) (ht : s.top = 0x1000)
    (v : Config.ioRead s.io 0x1010#32 1#8 = 0x5B) :
    exec (.ioda ⟨0x10, 1⟩) s = .next { s.replaceTop 0x5B 3 with io := .read 0x1010 1 :: s.io } := by
  simp [exec, execIoda, State.dispatch, State.advance, State.replaceTop, zext8, h, h', ht, v]

/-- V188 (R250): IODA sends the next-to-top and pops two. -/
theorem test_ioda_V188 (s : State) (h : Config.isRead 2#8 = false) (h' : Config.isWrite 2#8 = true) (ht : s.top = 0x1000) :
    exec (.ioda ⟨0x10, 2⟩) s =
      .next { s with sp := s.sp + -2, pc := s.pc + 3, io := .write 0x1010 s.second 2 :: s.io } := by
  simp [exec, execIoda, State.dispatch, State.advance, zext8, h, h', ht]

/-- V189 (R251): ION leaves S alone, the word is above the top. -/
theorem test_ion_V189 (s : State) (h : Config.isRead 1#8 = true) (h' : Config.isWrite 1#8 = false)
    (v : Config.ioRead s.io 0x10#32 1#8 = 0x5A) :
    exec (.ion ⟨0x10, 1⟩) s = .next { s.setStack (s.sp + 1) 0x5A with pc := s.pc + 3, io := .read 0x10 1 :: s.io } := by
  simp [exec, execIon, State.dispatch, State.advance, zext8, h, h', v]

/-- V190 (R251). -/
theorem test_ion_V190 (s : State) (h : Config.isRead 2#8 = false) (h' : Config.isWrite 2#8 = true) :
    exec (.ion ⟨0x10, 2⟩) s = .next { s with pc := s.pc + 3, io := .write 0x10 s.top 2 :: s.io } := by
  simp [exec, execIon, State.dispatch, State.advance, zext8, h, h']

/-! The words of spec/opcode_table.json -/

theorem test_table_words :
    (decide (decodeTableWord 16 0x1000 = some (.addb 0)) && decide (decodeTableWord 8 0x13 = some .add) &&
      decide (decodeTableWord 24 0x140120 = some (.radd ⟨.locals, .reg 0, .reg 1, .reg 2⟩)) &&
      decide (decodeTableWord 40 0x1280000001 = some (.addqb 0x80000001)) && decide (decodeTableWord 8 0x88 = none)) = true := by
  decide +kernel

/-- The first step after reset runs the word placed at PC: LIB 0xFF pushes 0xFF. -/
theorem test_withFetchWord :
    (match step (State.reset.withFetchWord 16 0x34FF) with
     | .next t => t.stackAt 1 == 0xFF && t.sp == 1 && t.pc == 2
     | .fault _ | .refused _ => false) = true := by
  decide +kernel

/-- From reset itself, no program being loaded, the machine stops at once (log 9). -/
theorem test_reset_stops : step State.reset = .fault .memoryNotAdmitted := rfl

/-! Witnesses: data that meet the hypotheses of each obligation, clause by clause, at the ends of their ranges -/

/-- The empty IFU stack has room, whatever IFU_STACK_DEPTH is. -/
theorem start_has_room : start.ifu.length < Config.ifuStackDepth := Nat.succ_pos _

/-- `start` with a full IFU stack. -/
def fullStart : State := { start with ifu := List.replicate Config.ifuStackDepth ⟨0x2000, 0, .user, false, 0⟩ }

theorem fullStart_is_full : Config.ifuStackDepth ≤ fullStart.ifu.length := by simp [fullStart]

/-- J1 as the program at PC. -/
def j1Start : State := place start [0x30]

theorem witness_StepKeepsTheInvariant : j1Start.Inv ∧ ∃ t, step j1Start = .next t :=
  ⟨⟨by decide +kernel, Nat.zero_le _⟩, _, rfl⟩

theorem witness_StepKeepsWhatIsFetched : (∃ t, step j1Start = .next t) ∧ j1Start.textCell 0x1000 :=
  ⟨⟨_, rfl⟩, by decide, by decide +kernel⟩

theorem witness_DecodeOfEncodeIsTheInstruction : wellFormed (.shl 0x1820) = true ∧ wellFormed (.shdr 0) = true := by decide +kernel

theorem witness_EncodeOfDecodeIsTheBytes : decode [0xF4, 0xFF, 0x00, 0x30] = .ok (.ion ⟨0xFF, 0x00⟩, [0x30]) := by decide +kernel

theorem witness_UnassignedOpcodesAreRefused :
    opLength 0x00 = none ∧ opLength 0x88 = none ∧ opLength 0xFF = none ∧ opLength 0x10 = some 2 ∧ opLength 0xF4 = some 3 := by
  decide +kernel

theorem witness_ReservedOperandCodesAreRefused :
    ((0x14 : Byte) ∈ ([0x14, 0xED] : List Byte) ∧ (0x40 : Byte).getLsbD 6 = true ∧ (0xF0 : Byte).extractLsb' 4 4 = 15) ∧
    ¬((0x40 : Byte).getLsbD 6 = true ∧ (0xE0 : Byte).extractLsb' 4 4 = 15) ∧
    ((0x18#8 ++ 0x20#8).extractLsb' 13 3 = 0 ∧ ((0x18#8 ++ 0x20#8).extractLsb' 6 6).toNat = 32 ∧
      ((0x20 : Byte).extractLsb' 0 6).toNat = 32) ∧
    ((0x20 : Byte).extractLsb' 5 3 ≠ 0 ∧ ((0x08#8 ++ 0x40#8).extractLsb' 6 6).toNat = 33) ∧
    (opLength 0x13 = some ([] : List Byte).length.succ ∧ opLength 0x12 = some ([0xFF, 0xFF, 0xFF, 0xFF] : List Byte).length.succ ∧
      opLength 0xF4 = some ([0xFF, 0xFF] : List Byte).length.succ) := by decide +kernel

theorem witness_StepRunsTheDecodedInstruction :
    (place start [0x36, 0x80, 0, 0, 1]).fetchBytes 0x1000 5 = .ok [0x36, 0x80, 0, 0, 1] ∧
      decode [0x36, 0x80, 0, 0, 1] = .ok (.liqb 0x80000001, []) := by decide +kernel

theorem witness_StepStopsWhereNothingIsFetched :
    start.inText start.pc = false ∧
    (({ start with text := [⟨0x1000, 1⟩] }).inText 0x1000 = true ∧ start.mem.get 0x1000 = none) ∧
    ((place start [0x88]).inText 0x1000 = true ∧ (place start [0x88]).mem.get 0x1000 = some 0x88 ∧ opLength 0x88 = none) := by
  decide +kernel

/-- An exact result at the ends of the signed range. -/
theorem witness_LiteralAddsAndSubtractsInRange :
    let hi := start.setStack 5 0x7FFFFF00
    let lo := start.setStack 5 0x80000001
    hi.top.toInt + (0xFF : Byte).toNat + hi.carry.toNat = 2 ^ 31 - 1 ∧
    (start.setStack 5 0x7FFF0000).top.toInt + (0xFFFF : Half).toNat + start.carry.toNat = 2 ^ 31 - 1 ∧
    (start.setStack 5 0).top.toInt + (0x80000000 : Word).toInt + start.carry.toNat = -2 ^ 31 ∧
    lo.top.toInt - (1 : Byte).toNat - lo.carry.toNat = -2 ^ 31 ∧ lo.top.toInt - (1 : Half).toNat - lo.carry.toNat = -2 ^ 31 ∧
    (start.setStack 5 0xFFFFFFFF).top.toInt - (0x80000000 : Word).toInt - start.carry.toNat = 2 ^ 31 - 1 := by decide +kernel

theorem witness_RegisterAddsAndSubtractsInRange :
    let hi := (start.setStack 4 0x7FFFFFFF).setStack 5 0
    let lo := (start.setStack 4 0x80000000).setStack 5 0
    hi.second.toInt + hi.top.toInt + hi.carry.toNat = 2 ^ 31 - 1 ∧ lo.second.toInt - lo.top.toInt - lo.carry.toNat = -2 ^ 31 ∧
    (hi.read .locals .second).toInt + (hi.read .locals .topPop).toInt + hi.carry.toNat = 2 ^ 31 - 1 ∧
    (lo.read .locals .second).toInt - (lo.read .locals .topPop).toInt - lo.carry.toNat = -2 ^ 31 ∧
    (hi.readQ .topToTop).toInt + (hi.read .locals .second).toInt + hi.carry.toNat = 2 ^ 31 - 1 ∧
    (hi.readQ .topToPush).toInt - (hi.read .locals .second).toInt - hi.carry.toNat = -(2 ^ 31 - 1) := by decide +kernel

/-- An exact result one beyond the signed range, for each of the twelve, and both fillings of the IFU stack. -/
theorem witness_CheckedArithmeticTrapsOnOverflow :
    (let hi := (start.setStack 4 1).setStack 5 0x7FFFFFFF
     let lo := (start.setStack 4 1).setStack 5 0x80000000
     let dn := (start.setStack 4 0x80000000).setStack 5 1
     hi.top.toInt + (1 : Byte).toNat + hi.carry.toNat = 2 ^ 31 ∧ hi.top.toInt + (1 : Half).toNat + hi.carry.toNat = 2 ^ 31 ∧
     lo.top.toInt + (0xFFFFFFFF : Word).toInt + lo.carry.toNat = -2 ^ 31 - 1 ∧
     hi.second.toInt + hi.top.toInt + hi.carry.toNat = 2 ^ 31 ∧
     (hi.read .locals .top).toInt + (hi.read .locals .second).toInt + hi.carry.toNat = 2 ^ 31 ∧
     (hi.readQ .topToTop).toInt + (hi.read .locals .second).toInt + hi.carry.toNat = 2 ^ 31 ∧
     lo.top.toInt - (1 : Byte).toNat - lo.carry.toNat = -2 ^ 31 - 1 ∧ lo.top.toInt - (1 : Half).toNat - lo.carry.toNat = -2 ^ 31 - 1 ∧
     hi.top.toInt - (0xFFFFFFFF : Word).toInt - hi.carry.toNat = 2 ^ 31 ∧
     dn.second.toInt - dn.top.toInt - dn.carry.toNat = -2 ^ 31 - 1 ∧
     (dn.read .locals .second).toInt - (dn.read .locals .top).toInt - dn.carry.toNat = -2 ^ 31 - 1 ∧
     (lo.readQ .topToTop).toInt - (lo.read .locals .second).toInt - lo.carry.toNat = -2 ^ 31 - 1) ∧
    start.ifu.length < Config.ifuStackDepth ∧ ¬fullStart.ifu.length < Config.ifuStackDepth :=
  ⟨by decide +kernel, start_has_room, Nat.not_lt.2 fullStart_is_full⟩

theorem witness_BorrowIsTheComplementOfTheAddersCarryOut :
    ∃ t, exec (.rusub ⟨.locals, .second, .top, .top⟩) ((start.setStack 4 0).setStack 5 1) = .next t := ⟨_, rfl⟩

/-- A destination pair over the source pair, low on low and high on high, at both ends of the register numbers. -/
theorem witness_TwoWordAddAndSubtractThroughCarry :
    start.carry = false ∧ (0 : BitVec 4) ≠ 15 ∧ (0 : BitVec 4) ≠ 1 ∧
    (let s := (start.setAux 0 0xFFFFFFFF).setAux 15 0xFFFFFFFF
     (s.regAt .aux 15 ++ s.regAt .aux 0 : BitVec 64) = 0xFFFFFFFFFFFFFFFF) ∧
    (let s := (start.setLocal 0 0).setLocal 1 0x80000000
     (s.regAt .locals 1 ++ s.regAt .locals 0 : BitVec 64) = 0x8000000000000000) := by decide +kernel

theorem witness_AddOverflowIsASignChange : start.carry = false ∧ start.ifu.length < Config.ifuStackDepth := ⟨rfl, start_has_room⟩

theorem witness_FieldUnitInstructionsApplyOperate :
    fieldDesc 0x1820 = some ⟨true, 32, 32⟩ ∧ fieldDesc 0 = some ⟨false, 0, 0⟩ ∧ wellFormed (.shl 0x0821) = false ∧
      wellFormed (.shl 0x0840) = false ∧ wellFormed (.shl 0x2000) = false := by decide +kernel

theorem witness_FieldRegisterInstructions :
    (let s := { start with field := 0x1820 }
     s.field.toNat < 2 ^ 13 ∧ fieldDesc (s.field.setWidth 16) = some ⟨true, 32, 32⟩) ∧
    2 ^ 13 ≤ ({ start with field := 0x2000 }).field.toNat ∧ 2 ^ 13 ≤ ({ start with field := 0x10218 }).field.toNat ∧
    fieldDesc ((0x1840 : Word).setWidth 16) = none := by decide +kernel

theorem witness_OperateShiftsAndRotates : 0 ≤ 32 ∧ 32 ≤ 32 := by decide

theorem witness_OperateExtractsAndInsertsFields : (0 + 32 ≤ 32 ∧ 0 < 32 ∧ 31 < 32) ∧ (31 + 1 ≤ 32 ∧ 31 < 32 ∧ 0 < 32) := by decide

theorem witness_ConstantsArePushed : ((Instr.lc0, (0 : Fin 12)) ∈ [(Instr.lc0, (0 : Fin 12)), (.lc11, 11)]) := by decide

theorem witness_CallsPushTheReturnRecord :
    start.ifu.length < Config.ifuStackDepth ∧ Config.ifuStackDepth ≤ fullStart.ifu.length := ⟨start_has_room, fullStart_is_full⟩

/-- `start` with [S] pointing at the last word, which holds 5000; in `full` the IFU stack is full. -/
def sfciStart (full : Bool) : State :=
  { (if full then fullStart else start).setStack 5 0xFFFFFFFF with mem := start.mem.putWord 0xFFFFFFFF 0x5000 }

theorem witness_IndirectCallReadsItsTargetFromMemory :
    ((sfciStart false).admits (sfciStart false).top = true ∧ (sfciStart false).mem.word (sfciStart false).top = some 0x5000 ∧
      (sfciStart false).ifu.length < Config.ifuStackDepth) ∧
    ({ start with admitted := [] }).admits start.top = false ∧
    (start.admits start.top = true ∧ start.mem.word start.top = none) ∧
    ((sfciStart true).admits (sfciStart true).top = true ∧ (sfciStart true).mem.word (sfciStart true).top = some 0x5000 ∧
      Config.ifuStackDepth ≤ (sfciStart true).ifu.length) :=
  ⟨⟨by decide +kernel, by decide +kernel, start_has_room⟩, by decide +kernel, ⟨by decide +kernel, by decide +kernel⟩,
    by decide +kernel, by decide +kernel, fullStart_is_full⟩

theorem witness_ReturnsRestoreTheNewestRecord :
    ({ start with ifu := [⟨0x1003, 17, .kernel, true, 9⟩] }).ifu = ⟨0x1003, 17, .kernel, true, 9⟩ :: [] ∧ start.ifu = [] :=
  ⟨rfl, rfl⟩

theorem witness_CallThenReturnResumesAfterTheCall :
    (0x50 ≤ opcodeOf (.lfc 0x10) ∧ opcodeOf .kfc ≤ 0x54) ∧ (∃ t, exec (.lfc 0x10) start = .next t ∧ t.ifu = t.ifu) ∧
      (∃ t, exec .kfc start = .next t) ∧ ∃ t, exec .sfci (sfciStart false) = .next t :=
  ⟨by decide +kernel, ⟨_, rfl, rfl⟩, ⟨_, rfl⟩, _, rfl⟩

theorem witness_LocalRegisterCopies :
    (Instr.lr15, Instr.sr15, (15 : BitVec 4)) ∈ [(Instr.lr0, Instr.sr0, (0 : BitVec 4)), (.lr15, .sr15, 15)] := by decide +kernel

/-- `loadStart` with operands that reach its words: Stack[4] = 0, Stack[5] = Locals[0] = Locals[15] = 1000. -/
def operands : State :=
  ((((((((loadStart.setStack 4 0).setStack 5 0x1000).setStack 20 0x1000).setStack 35 0x1000).setAux 0 0x10000).setAux 1 0x2000).setConst
    0 0x1000).setConst 1 1).setConst 2 0xFFFFFFFF

/-- Each effective address below is admitted and written: word 0 through a sum that wraps, and the others. -/
theorem witness_LoadsReadOneWord :
    [operands.read .locals (.const 2) + operands.read .locals (.const 1), operands.readQ .topToTop + operands.read .locals (.const 1),
      operands.top + (0xFF : Byte).setWidth 32, operands.top + (0 : Byte).setWidth 32, operands.second + operands.top,
      operands.localAt 0 + (1 : Byte).setWidth 32, operands.auxAt 1 + (0x10 : Byte).setWidth 32,
      operands.auxAt 0 + (0xFFFF : Half).setWidth 32, operands.stackAt (operands.fp + (15 : BitVec 4).setWidth 7) + (1 : Byte).setWidth 32].map
        (fun ea => (operands.admits ea, operands.mem.word ea)) =
    [(true, some 0xB0), (true, some 0xA1), (true, some 0xAFF), (true, some 0xA0), (true, some 0xA0), (true, some 0xA1),
      (true, some 0xD0), (true, some 0xC0), (true, some 0xA1)] := by decide +kernel

/-- The words just outside the admitted ones, and an admitted word nothing has written. -/
theorem witness_LoadsStopOutsideWrittenMemory :
    operands.admits (operands.top + (2 : Byte).setWidth 32) = false ∧ operands.admits (operands.auxAt 1 + (0x0F : Byte).setWidth 32) = false ∧
    ({ operands with mem := [] }).admits operands.top = true ∧ ({ operands with mem := [] }).mem.word operands.top = none := by
  decide +kernel

/-- Effective addresses at both ends of the admitted words 1000 to 1003. -/
theorem witness_StoresWriteOneWord :
    let s := ((storeStart.setStack 4 0x1000).setStack 5 0x1000).setStack 20 0x1000
    [s.top + (0 : Byte).setWidth 32, s.second + (3 : Byte).setWidth 32, s.localAt 0 + (3 : Byte).setWidth 32,
      (s.setAux 15 0x2010).auxAt 15 + (0 : Byte).setWidth 32, s.stackAt (s.fp + (0 : BitVec 4).setWidth 7) + (0 : Byte).setWidth 32].all
        (fun ea => s.admits ea && !s.holdsText ea) = true := by decide +kernel

/-- The word after the last admitted one; the first and the last word with a byte of a program at 1000 to 1004. -/
theorem witness_StoresStopAtTextAndOutsideMemory :
    storeStart.admits 0x1004 = false ∧
    (let s := place start [0x36, 0, 0, 0, 0]
     s.admits 0x400 = true ∧ s.holdsText 0x400 = true ∧ s.holdsText 0x401 = true ∧ s.holdsText 0x402 = false) := by decide +kernel

theorem witness_ConditionalStoreComparesAndSwaps :
    let s := ((storeStart.setStack 3 0x1000).setStack 4 0x22).setStack 5 0xA1
    let u := { place (start.setStack 3 0x400) [0xA5, 1] with pc := 0x1000 }
    (s.admits (s.stackAt (s.sp - 2) + (1 : Byte).setWidth 32) = true ∧ s.mem.word 0x1001 = some 0xA1 ∧ 0xA1 = s.top ∧
      s.holdsText 0x1001 = false) ∧
    (s.mem.word 0x1000 = some 0xA0 ∧ 0xA0 ≠ s.top) ∧
    (s.stackAt (s.sp - 2) + (4 : Byte).setWidth 32 = 0x1004 ∧ s.admits 0x1004 = false) ∧
    (s.admits 0x1003 = true ∧ ({ s with mem := [] }).mem.word 0x1003 = none) ∧
    ({ u with mem := u.mem.putWord 0x400 0 }.mem.word 0x400 = some 0 ∧ 0 = u.top ∧ u.holdsText 0x400 = true) := by decide +kernel

theorem witness_LoadAfterStoreReturnsTheStoredWord :
    ∃ t, start.memWrite 0xFFFFFFFF 0x12345678 = .ok t :=
  ⟨_, State.memWrite_of _ (by decide +kernel) (by decide +kernel)⟩

/-- One below the bound, and at the bound. -/
theorem witness_BoundsChecksPassBelowAndTrapAtTheBound :
    let below := (start.setStack 4 0xFFFFFFFE).setStack 5 0xFFFFFFFF
    let at_ := (start.setStack 4 0).setStack 5 0
    ((below.read .locals .second).toNat < (below.read .locals .top).toNat ∧ below.second.toNat < below.top.toNat ∧
      (below.readQ .const0ToPush).toNat < (below.read .locals .top).toNat) ∧
    ((at_.read .locals .top).toNat ≤ (at_.read .locals .second).toNat ∧ at_.top.toNat ≤ at_.second.toNat ∧
      (at_.read .locals .top).toNat ≤ (at_.readQ .const1ToPush).toNat) := by decide +kernel

theorem witness_LispArithmeticWrapsOrTraps :
    start.ifu.length < Config.ifuStackDepth ∧ Config.ifuStackDepth ≤ fullStart.ifu.length := ⟨start_has_room, fullStart_is_full⟩

theorem witness_TrapThenReturnReexecutes : (start.trapEntry .lispNaN).ifu = (start.trapEntry .lispNaN).ifu := rfl

/-- ADDB 1 at the largest integer is a trap entry. -/
theorem addb_traps : exec (.addb 1) (start.setStack 5 0x7FFFFFFF) = .next ((start.setStack 5 0x7FFFFFFF).trapEntry .overflow) := by
  have h : Config.overflowKind (signedSum (start.setStack 5 0x7FFFFFFF).top (zext8 1) (start.setStack 5 0x7FFFFFFF).carry) = true := by
    decide +kernel
  simp only [exec, execAddb, State.checked, h]
  exact State.trapIf_true _ _ rfl

theorem witness_OnlyArithmeticBoundsAndLispTrap :
    ∃ t, exec (.addb 1) (start.setStack 5 0x7FFFFFFF) = .next t ∧ t.ifu = ⟨0x1000, 20, .user, false, 0⟩ :: start.ifu :=
  ⟨_, addb_traps, rfl⟩

theorem witness_ModeChangesOnlyByEntryAndReturn :
    (∃ t, exec .kfc start = .next t ∧ t.mode ≠ start.mode) ∧
    ∃ t, exec (.ret 0) { start with ifu := [⟨0x1003, 17, .kernel, true, 9⟩] } = .next t ∧ t.mode ≠ start.mode :=
  ⟨⟨_, rfl, by decide⟩, _, rfl, by decide⟩

theorem witness_CarryIsWrittenAsItsRuleLists :
    (∃ t, exec (.ruadd ⟨.locals, .top, .top, .top⟩) start = .next t) ∧ (∃ t, exec .j1 start = .next t) ∧
      ∃ t, exec (.addb 1) (start.setStack 5 0x7FFFFFFF) = .next t := ⟨⟨_, rfl⟩, ⟨_, rfl⟩, _, addb_traps⟩

theorem witness_StateIsWrittenOnlyByItsWriters :
    (∃ t, exec (.fsdb 1) start = .next t) ∧ (∃ t, exec (.sip 255) start = .next t) ∧ ∃ t, exec (.als 1) start = .next t :=
  ⟨⟨_, rfl⟩, ⟨_, rfl⟩, _, rfl⟩

theorem witness_PcAdvancesByTheLengthUnlessAssigned :
    (∃ t, exec (.liqb 7) { start with pc := 0xFFFFFFFF } = .next t) ∧ ¬(0x50 ≤ opcodeOf (.liqb 7) ∧ opcodeOf (.liqb 7) ≤ 0x56) ∧
      ¬(0xC0 ≤ opcodeOf (.liqb 7) ∧ opcodeOf (.liqb 7) ≤ 0xC4) ∧ ¬(0xD0 ≤ opcodeOf (.liqb 7) ∧ opcodeOf (.liqb 7) ≤ 0xDF) :=
  ⟨⟨_, rfl⟩, by decide +kernel⟩

theorem witness_NoStepAnswersNotModelled :
    step (place start [0x88]) = .refused (.unassignedOpcode 0x88) ∧ step (place start [0x14, 0xED, 0xFC]) = .refused .reservedRcCode ∧
      step (place start [0x28, 0x28, 0x04]) = .refused .fieldDescriptor :=
  ⟨isStop_refused (by decide +kernel), isStop_refused (by decide +kernel), isStop_refused (by decide +kernel)⟩

/-- REF_OPC is an injective map, 88 is a byte it gives to no mnemonic, and SHL's literal is at its range's end. -/
theorem witness_EveryInjectiveOpcodeMapDecodesWhatItEncodes :
    Function.Injective Config.refOpc ∧ wellFormed (.shl 0x1820) = true ∧ ∀ m, Config.refOpc m ≠ 0x88 :=
  ⟨fun a b h => Option.some.inj ((mnemonicOf_refOpc a).symm.trans ((congrArg (mnemonicOf Config.refOpc) h).trans (mnemonicOf_refOpc b))),
    by decide +kernel, fun m => by cases m <;> decide +kernel⟩

end Sys2Proof.Tests
end

section
/-! The decoder and fetching: how many bytes a decoded instruction takes, and why the decoder errs on enough bytes. -/

namespace Sys2Proof

/-! The operand bytes of a format -/

/-- Decoding consumes one byte less than the format's length, the opcode byte being before it (R71). -/
theorem decodeForm_ok_length {c : Config.Coding} {f : Form} {r rest : List Byte} {i : Instr}
    (h : decodeForm c f r = .ok (i, rest)) : r.length + 1 = f.length + rest.length := by
  unfold decodeForm at h
  split at h <;> simp only [Form.length, List.length_cons]
  case h_11 => split at h <;> cases h; omega
  case h_13 => cases h
  all_goals cases h; omega

/-- Given as many bytes as the format asks for, only a reserved Rc code is refused (R81, R93). -/
theorem decodeForm_error {c : Config.Coding} {f : Form} {r : List Byte} {e : DecodeError}
    (hr : r.length + 1 = f.length) (h : decodeForm c f r = .error e) : e = .reservedRcCode := by
  cases f with
  | i | lr => cases h
  | lb | xo | qr =>
    obtain ⟨a, rfl⟩ := List.length_eq_one_iff.mp (Nat.succ.inj hr)
    cases h
  | lh | rd | lbd | xro | lio =>
    obtain ⟨a, b, rfl⟩ := List.length_eq_two.mp (Nat.succ.inj hr)
    cases h
  | rrr =>
    obtain ⟨a, b, rfl⟩ := List.length_eq_two.mp (Nat.succ.inj hr)
    simp only [decodeForm] at h
    split at h <;> cases h
    rfl
  | lw =>
    match r, hr with
    | [_, _, _, _], _ => cases h

/-! The decoder -/

theorem opLength_eq_some_iff {op : Byte} {n : Nat} :
    opLength op = some n ↔ ∃ m, mnemonicOf Config.refOpc op = some m ∧ m.form.length = n := by
  simp [opLength, Config.coding]

theorem opLength_pos {op : Byte} {n : Nat} (h : opLength op = some n) : 0 < n := by
  obtain ⟨m, -, rfl⟩ := opLength_eq_some_iff.mp h
  cases m.form <;> exact Nat.succ_pos _

/-- What the decoder read an instruction from: an assigned opcode, then operands of its format, well formed (R88, R93). -/
theorem decode_ok {bs rest : List Byte} {i : Instr} (h : decode bs = .ok (i, rest)) :
    ∃ op r m, bs = op :: r ∧ mnemonicOf Config.refOpc op = some m ∧ decodeForm Config.coding m.form r = .ok (i, rest) ∧
      wellFormed i = true := by
  unfold decode decodeWith at h
  split at h
  · cases h
  · next op r =>
    split at h
    · cases h
    · next m hm =>
      split at h
      · cases h
      · next j tail hj =>
        split at h <;> cases h
        exact ⟨op, r, m, rfl, hm, hj, ‹_›⟩

/-- A decoded instruction took as many bytes as its opcode byte asks for (R70). -/
theorem decode_ok_length {bs rest : List Byte} {i : Instr} (h : decode bs = .ok (i, rest)) :
    ∃ op r n, bs = op :: r ∧ opLength op = some n ∧ bs.length = n + rest.length := by
  obtain ⟨op, r, m, rfl, hm, hform, -⟩ := decode_ok h
  exact ⟨op, r, m.form.length, rfl, opLength_eq_some_iff.mpr ⟨m, hm, rfl⟩, decodeForm_ok_length hform⟩

/-- Given as many bytes as the opcode asks for, the decoder refuses a reserved Rc code or a field descriptor alone (R93). -/
theorem decode_error {op : Byte} {r : List Byte} {e : DecodeError} (hop : opLength op = some (op :: r).length)
    (h : decode (op :: r) = .error e) : e = .reservedRcCode ∨ e = .fieldDescriptor := by
  obtain ⟨m, hm, hlen⟩ := opLength_eq_some_iff.mp hop
  simp only [decode, decodeWith, Config.coding, hm] at h
  split at h
  · next hform =>
    cases h
    exact .inl (decodeForm_error hlen.symm hform)
  · split at h <;> cases h
    exact .inr rfl

end Sys2Proof

namespace Sys2Proof.Machine

/-! Fetching -/

theorem State.fetchBytes_succ_ok {s : State} {ba : Word} {n : Nat} {bs : List Byte} (h : s.fetchBytes ba (n + 1) = .ok bs) :
    ∃ b tail, s.fetchByte ba = .ok b ∧ s.fetchBytes (ba + 1) n = .ok tail ∧ bs = b :: tail := by
  unfold State.fetchBytes at h
  split at h
  · cases h
  · next b hb =>
    split at h
    · cases h
    · next tail htail =>
      cases h
      exact ⟨b, tail, hb, htail, rfl⟩

theorem State.fetchBytes_length {s : State} {ba : Word} {n : Nat} {bs : List Byte} (h : s.fetchBytes ba n = .ok bs) :
    bs.length = n := by
  induction n generalizing ba bs with
  | zero => cases h; rfl
  | succ n ih =>
    obtain ⟨b, tail, -, htail, rfl⟩ := State.fetchBytes_succ_ok h
    rw [List.length_cons, ih htail]

/-- The first of the bytes fetched is the byte at the address (R13). -/
theorem State.fetchBytes_cons_ok {s : State} {ba : Word} {n : Nat} {op : Byte} {r : List Byte}
    (h : s.fetchBytes ba n = .ok (op :: r)) : s.fetchByte ba = .ok op := by
  cases n with
  | zero => cases h
  | succ n =>
    obtain ⟨b, tail, hb, -, heq⟩ := State.fetchBytes_succ_ok h
    cases heq
    exact hb

/-- Where the opcode at PC asks for the bytes that stand there, fetching is decoding them (R13, R70). -/
theorem State.fetchInstr_of {s : State} {op : Byte} {r rest : List Byte} {i : Instr}
    (hbs : s.fetchBytes s.pc (op :: r).length = .ok (op :: r)) (hop : opLength op = some (op :: r).length)
    (hi : decode (op :: r) = .ok (i, rest)) : s.fetchInstr = .next i := by
  simp only [State.fetchInstr, State.fetchBytes_cons_ok hbs, hop, hbs, hi]

theorem step_of_fetchInstr {s : State} {i : Instr} (h : s.fetchInstr = .next i) : step s = exec i s := by
  simp only [step, h]

/-- Of the bytes a fetch hands over, the decoder refuses a reserved Rc code or a field descriptor alone (R93). -/
theorem State.decode_error_of_fetched {s : State} {op : Byte} {n : Nat} {bs : List Byte} {e : DecodeError}
    (hfetch : s.fetchByte s.pc = .ok op) (hop : opLength op = some n) (hbs : s.fetchBytes s.pc n = .ok bs)
    (he : decode bs = .error e) : e = .reservedRcCode ∨ e = .fieldDescriptor := by
  have hlen := State.fetchBytes_length hbs
  cases bs with
  | nil => exact absurd hlen (opLength_pos hop).ne
  | cons b r =>
    have hb := State.fetchBytes_cons_ok hbs
    rw [hfetch] at hb
    cases hb
    exact decode_error (hlen ▸ hop) he

/-- Fetching refuses an unassigned opcode, or what the decoder refuses of as many bytes as the opcode asks for (R92, R93). -/
theorem State.fetchInstr_refused {s : State} {r : Refusal} (h : s.fetchInstr = .refused r) :
    (∃ op, r = .unassignedOpcode op ∧ opLength op = none) ∨ r = .reservedRcCode ∨ r = .fieldDescriptor := by
  unfold State.fetchInstr at h
  split at h
  · cases h
  · next op hfetch =>
    split at h
    · next hop =>
      cases h
      exact .inl ⟨op, rfl, hop⟩
    · next n hop =>
      split at h
      · cases h
      · next bs hbs =>
        split at h
        · next e he =>
          cases h
          obtain rfl | rfl := State.decode_error_of_fetched hfetch hop hbs he
          · exact .inr (.inl rfl)
          · exact .inr (.inr rfl)
        · cases h

end Sys2Proof.Machine
end

section
/-! How an instruction ends: PC past it, a trap entry, a stop; and what it refuses. -/

namespace Sys2Proof.Machine

/-- Calls, returns and jumps, by their opcodes in REF_OPC: the instructions that assign PC (R27, R90). -/
abbrev AssignsPc (i : Instr) : Prop :=
  (0x50 ≤ opcodeOf i ∧ opcodeOf i ≤ 0x56) ∨ (0xC0 ≤ opcodeOf i ∧ opcodeOf i ≤ 0xC4) ∨ (0xD0 ≤ opcodeOf i ∧ opcodeOf i ≤ 0xDF)

/-- The ends of an instruction of `len` bytes that does not assign PC: PC past it, a trap entry from the pre-state, a fault, or a
descriptor refused (R13, R264, R262). -/
def SequentialEnd (s : State) (len : Word) : Result → Prop
  | .next t => t.pc = s.pc + len ∨ ∃ k, t = s.trapEntry k
  | .fault _ => True
  | .refused r => r = .fieldDescriptor

/-! Each shared operation ends so -/

variable {s : State} {len : Word}

theorem sequentialEnd_next {t : State} (h : t.pc = s.pc + len) : SequentialEnd s len (.next t) := .inl h

/-- Checked arithmetic, bounds checks and Lisp arithmetic all end in this one operation. -/
theorem State.trapIf_sequentialEnd {kind : TrapKind} {c : Bool} {done : State} (h : done.pc = s.pc + len) :
    SequentialEnd s len (s.trapIf kind c done) := by
  unfold State.trapIf
  split
  · trivial
  · cases c with
    | false => exact .inl h
    | true => exact .inr ⟨kind, rfl⟩

theorem State.load_sequentialEnd {ea : Word} {k : Word → State} (h : ∀ w, (k w).pc = s.pc + len) :
    SequentialEnd s len (s.load ea k) := by
  unfold State.load
  split
  · trivial
  · exact .inl (h _)

theorem State.memWrite_pc {t : State} {wa v : Word} (h : s.memWrite wa v = .ok t) : t.pc = s.pc := by
  obtain ⟨-, -, rfl⟩ := State.memWrite_ok h
  rfl

theorem State.store_sequentialEnd {ea v : Word} {ds : StackIx} : SequentialEnd s len (s.store ea v len ds) := by
  unfold State.store
  split
  · trivial
  · next ht => exact .inl (by rw [State.advance_pc, State.memWrite_pc ht])

theorem withDescriptor_sequentialEnd {ab : Half} {k : FieldDesc → State} (h : ∀ fd, (k fd).pc = s.pc + len) :
    SequentialEnd s len (withDescriptor ab k) := by
  unfold withDescriptor
  split
  · rfl
  · exact .inl (h _)

theorem execRfu_sequentialEnd (o : RRR) : SequentialEnd s 3 (execRfu o s) := by
  unfold execRfu
  split
  · exact withDescriptor_sequentialEnd fun _ => State.finishRRR_pc ..
  · rfl

theorem State.cStore_pc {t : State} {ptr new old r : Word} (h : s.cStore ptr new old = .ok (r, t)) : t.pc = s.pc := by
  obtain ⟨-, ⟨-, hw⟩ | ⟨-, rfl⟩⟩ := State.cStore_ok h
  · exact State.memWrite_pc hw
  · rfl

theorem execCst_sequentialEnd (a : Byte) : SequentialEnd s 2 (execCst a s) := by
  unfold execCst
  split
  · trivial
  · next ht => exact .inl (by rw [State.push_pc, State.cStore_pc ht])

theorem dispatch_advance_sequentialEnd {addr data : Word} {c : Byte} {dst ds : StackIx} :
    SequentialEnd s len (.next ((s.dispatch addr data c dst).advance len ds)) :=
  .inl (by rw [State.advance_pc, State.dispatch_pc])

/-! Every instruction -/

/-- R13: an instruction that does not assign PC ends past its own bytes, in a trap entry, or in a stop. -/
theorem exec_sequentialEnd {i : Instr} (s : State) (h : ¬ AssignsPc i) :
    SequentialEnd s (BitVec.ofNat 32 (encode i).length) (exec i s) := by
  cases i with
  | addb | adddb | addqb | add | subb | subdb | subqb | sub | qadd | qsub =>
    exact State.trapIf_sequentialEnd rfl
  | radd | rsub => exact State.trapIf_sequentialEnd (State.finishRRR_pc ..)
  | ruadd | rvadd | rusub | rvsub | rand | ror | rxor => exact sequentialEnd_next (State.finishRRR_pc ..)
  | and | or | qand | qor => exact sequentialEnd_next rfl
  | shl | shr | shdl | shdr => exact withDescriptor_sequentialEnd fun _ => rfl
  | fsdb => exact sequentialEnd_next rfl
  | rfu o => exact execRfu_sequentialEnd o
  | j1 | j2 | j3 | j5 | lib | lidb | liqb => exact sequentialEnd_next rfl
  | lc0 | lc1 | lc2 | lc3 | lc4 | lc5 | lc6 | lc7 | lc8 | lc9 | lc10 | lc11 => exact sequentialEnd_next rfl
  | dis | as | asl | als | al | dup | exdis => exact sequentialEnd_next rfl
  | lr0 | lr1 | lr2 | lr3 | lr4 | lr5 | lr6 | lr7 | lr8 | lr9 | lr10 | lr11 | lr12 | lr13 | lr14 | lr15 =>
    exact sequentialEnd_next rfl
  | sr0 | sr1 | sr2 | sr3 | sr4 | sr5 | sr6 | sr7 | sr8 | sr9 | sr10 | sr11 | sr12 | sr13 | sr14 | sr15 =>
    exact sequentialEnd_next rfl
  | rrx => exact State.load_sequentialEnd fun _ => State.finishRRR_pc ..
  | qrx | rb | rsb | rx | rri | rai | lgf => exact State.load_sequentialEnd fun _ => rfl
  | lri0 | lri1 | lri2 | lri3 | lri4 | lri5 | lri6 | lri7 | lri8 | lri9 | lri10 | lri11 | lri12 | lri13 | lri14 | lri15 =>
    exact State.load_sequentialEnd fun _ => rfl
  | wb | wsb | psb | wri | wai => exact State.store_sequentialEnd
  | sri0 | sri1 | sri2 | sri3 | sri4 | sri5 | sri6 | sri7 | sri8 | sri9 | sri10 | sri11 | sri12 | sri13 | sri14 | sri15 =>
    exact State.store_sequentialEnd
  | cst a => exact execCst_sequentialEnd a
  | rbc => exact State.trapIf_sequentialEnd (State.finishRRR_pc ..)
  | bc | qbc => exact State.trapIf_sequentialEnd rfl
  | ladd | lsub | qladd | qlsub => exact State.trapIf_sequentialEnd rfl
  | rladd | rlsub => exact State.trapIf_sequentialEnd (State.finishRRR_pc ..)
  | lip | sip => exact sequentialEnd_next rfl
  | iod | ioda | ion => exact dispatch_advance_sequentialEnd
  | _ => exact absurd (of_decide_eq_true rfl) h

theorem State.call_ne_refused {target : Word} {ds : StackIx} {r : Refusal} : s.call len target ds ≠ .refused r := by
  unfold State.call
  split <;> nofun

theorem State.ifuReturn_ne_refused {r : Refusal} : s.ifuReturn ≠ .refused r := by
  unfold State.ifuReturn
  split <;> nofun

theorem execSfci_ne_refused {r : Refusal} : execSfci s ≠ .refused r := by
  unfold execSfci
  split
  · nofun
  · exact State.call_ne_refused

theorem execKfc_ne_refused {r : Refusal} : execKfc s ≠ .refused r := by
  unfold execKfc
  split <;> nofun

/-- No call, return or jump is refused: they complete or fault (R150, R151). -/
theorem exec_ne_refused_of_assignsPc {i : Instr} (s : State) (r : Refusal) (h : AssignsPc i) : exec i s ≠ .refused r := by
  cases i with
  | lfc | dfc | sfc => exact State.call_ne_refused
  | sfci => exact execSfci_ne_refused
  | kfc => exact execKfc_ne_refused
  | retn | ret => exact State.ifuReturn_ne_refused
  | jb | jdb | jqb | jsd | jsr => nofun
  | jebb | jebbj | jnebb | jnebbj => nofun
  | rjlb | rjlbj | rjleb | rjlebj | rjeb | rjebj | rjneb | rjnebj | rjgeb | rjgebj | rjgb | rjgbj => nofun
  | _ => exact absurd h (of_decide_eq_false rfl)

/-- The only refusal of an instruction's meaning is the field descriptor's (R130, R137). -/
theorem exec_refused {i : Instr} {s : State} {r : Refusal} (h : exec i s = .refused r) : r = .fieldDescriptor := by
  by_cases hi : AssignsPc i
  · exact absurd h (exec_ne_refused_of_assignsPc s r hi)
  · have hend := exec_sequentialEnd s hi
    rwa [h] at hend

/-- A step refuses what fetching refuses or what the instruction fetched refuses (R14). -/
theorem step_refused {s : State} {r : Refusal} (h : step s = .refused r) :
    s.fetchInstr = .refused r ∨ ∃ i, s.fetchInstr = .next i ∧ exec i s = .refused r := by
  unfold step at h
  split at h
  · cases h
  · next hf => cases h; exact .inl hf
  · next i hf => exact .inr ⟨i, hf, h⟩

end Sys2Proof.Machine
end

section
/-! The statements of spec/00_scope.md. -/

namespace Sys2Proof.Machine

/-- Settles O10: the bytes at PC decode whole, so their number is the one the opcode asks for, and fetching answers `i`. -/
theorem stepRunsTheDecodedInstruction : Obligations.StepRunsTheDecodedInstruction := by
  intro s bs i hbs hi
  obtain ⟨op, r, n, rfl, hop, hlen⟩ := decode_ok_length hi
  exact step_of_fetchInstr (State.fetchInstr_of hbs (hop.trans (congrArg some hlen.symm)) hi)

/-- Settles O57: every instruction outside the three opcode ranges has a sequential end. -/
theorem pcAdvancesByTheLengthUnlessAssigned : Obligations.PcAdvancesByTheLengthUnlessAssigned := by
  intro i s t h hcall hjump hcond
  have hend := exec_sequentialEnd s (not_or.mpr ⟨hcall, not_or.mpr ⟨hjump, hcond⟩⟩)
  rwa [h] at hend

/-- Settles O59: the refusals of fetching and those of the instruction fetched. -/
theorem noStepAnswersNotModelled : Obligations.NoStepAnswersNotModelled := by
  intro s r h
  rcases step_refused h with hfetch | ⟨i, -, hexec⟩
  · exact State.fetchInstr_refused hfetch
  · exact .inr (.inr (exec_refused hexec))

end Sys2Proof.Machine
end

section
/-! Which instructions write which parts of the state: the table of R34, and that every instruction keeps to it. -/

namespace Sys2Proof.Machine

/-- The parts of the state besides Stack, S and PC. -/
inductive Part where
  | fp | consts | aux | carry | field | ifu | mode | trapsEnabled | version | procRegs | mem | admitted | text | io

/-- The fourteen instructions of format RRR, by their opcodes in REF_OPC (R81, R90). -/
abbrev rrrOpcodes : List Nat := [0x14, 0x16, 0x17, 0x1C, 0x1E, 0x1F, 0x21, 0x24, 0x26, 0x2D, 0x80, 0xE0, 0xEA, 0xED]

/-- The checked adds and subtracts and the Lisp instructions, which clear Carry (R28). -/
abbrev carryClearers : List Nat :=
  [0x10, 0x11, 0x12, 0x13, 0x14, 0x15, 0x18, 0x19, 0x1A, 0x1B, 0x1C, 0x1D, 0xE8, 0xE9, 0xEA, 0xEB, 0xEC, 0xED]

/-- The opcodes in REF_OPC of the instructions that write a part otherwise than by entering a trap (R34). -/
def Part.writers : Part → List Nat
  | .fp => [0x55, 0x56, 0x5B, 0x5C]
  | .consts | .aux => rrrOpcodes
  | .carry =>
    [0x10, 0x11, 0x12, 0x13, 0x14, 0x15, 0x16, 0x18, 0x19, 0x1A, 0x1B, 0x1C, 0x1D, 0x1E, 0xE8, 0xE9, 0xEA, 0xEB, 0xEC, 0xED]
  | .field => [0x2C]
  | .ifu => [0x50, 0x51, 0x52, 0x53, 0x54, 0x55, 0x56]
  | .mode => [0x54, 0x55, 0x56]
  | .trapsEnabled | .version => [0x55, 0x56]
  | .procRegs => [0xF1]
  | .mem => List.range' 0xA0 6 ++ List.range' 0xB0 16
  | .admitted | .text => []
  | .io => [0xF2, 0xF3, 0xF4]

/-- The part is in `t` as it is in `s`. -/
def Part.Kept (s t : State) : Part → Prop
  | .fp => t.fp = s.fp
  | .consts => t.consts = s.consts
  | .aux => t.aux = s.aux
  | .carry => t.carry = s.carry
  | .field => t.field = s.field
  | .ifu => t.ifu = s.ifu
  | .mode => t.mode = s.mode
  | .trapsEnabled => t.trapsEnabled = s.trapsEnabled
  | .version => t.version = s.version
  | .procRegs => t.procRegs = s.procRegs
  | .mem => t.mem = s.mem
  | .admitted => t.admitted = s.admitted
  | .text => t.text = s.text
  | .io => t.io = s.io

/-- The table of R34 allows opcode `op` the change from `s` to `t`. -/
def Allowed (op : Nat) (s t : State) : Prop := ∀ p : Part, p.Kept s t ∨ op ∈ p.writers

/-- An outcome the table allows: if it is a state, then one it allows or a trap entry from the pre-state (R34, R264). -/
def AllowedEnd (op : Nat) (s : State) (o : Result) : Prop :=
  ∀ t, o = .next t → Allowed op s t ∨ ∃ k, t = s.trapEntry k

section
variable {op : Nat} {s t u : State}

theorem Part.Kept.trans {p : Part} (hst : p.Kept s t) (htu : p.Kept t u) : p.Kept s u := by
  cases p <;> exact Eq.trans htu hst

theorem Allowed.refl : Allowed op s s := fun p => .inl (by cases p <;> rfl)

theorem Allowed.trans (hst : Allowed op s t) (htu : Allowed op t u) : Allowed op s u := fun p =>
  (hst p).elim (fun h => (htu p).imp_left h.trans) .inr

/-! Each update of the state -/

theorem setStack_allowed {i : StackIx} {v : Word} : Allowed op s (s.setStack i v) := fun p => .inl (by cases p <;> rfl)

theorem advance_allowed {len : Word} {ds : StackIx} : Allowed op s (s.advance len ds) := fun p => .inl (by cases p <;> rfl)

theorem jump_allowed {pc : Word} {sp : StackIx} : Allowed op s { s with pc := pc, sp := sp } := fun p =>
  .inl (by cases p <;> rfl)

theorem setSp_allowed {sp : StackIx} : Allowed op s { s with sp := sp } := fun p => .inl (by cases p <;> rfl)

theorem setFp_allowed {fp : StackIx} (h : op ∈ Part.fp.writers) : Allowed op s { s with fp := fp } := fun p => by
  cases p with
  | fp => exact .inr h
  | _ => exact .inl rfl

theorem setField_allowed {v : Word} (h : op ∈ Part.field.writers) : Allowed op s { s with field := v } := fun p => by
  cases p with
  | field => exact .inr h
  | _ => exact .inl rfl

theorem setCarry_allowed {c : Bool} (h : op ∈ Part.carry.writers) : Allowed op s (s.setCarry c) := fun p => by
  cases p with
  | carry => exact .inr h
  | _ => exact .inl rfl

theorem setProc_allowed {a : Byte} {v : Word} (h : op ∈ Part.procRegs.writers) : Allowed op s (s.setProc a v) := fun p => by
  cases p with
  | procRegs => exact .inr h
  | _ => exact .inl rfl

theorem setMem_allowed {m : Memory} (h : op ∈ Part.mem.writers) : Allowed op s { s with mem := m } := fun p => by
  cases p with
  | mem => exact .inr h
  | _ => exact .inl rfl

theorem ifuPush_allowed {ret : Word} (h : op ∈ Part.ifu.writers) : Allowed op s (s.ifuPush ret) := fun p => by
  cases p with
  | ifu => exact .inr h
  | _ => exact .inl rfl

theorem kernelEntry_allowed {saved target : Word} (hifu : op ∈ Part.ifu.writers) (hmode : op ∈ Part.mode.writers) :
    Allowed op s (s.kernelEntry saved target) := fun p => by
  cases p with
  | ifu => exact .inr hifu
  | mode => exact .inr hmode
  | _ => exact .inl rfl

/-- Rc is a cell of Stack, Constants or AuxRegs (R81). -/
theorem write_allowed {f : RegFile} {d : Dst} {v : Word} (h : op ∈ rrrOpcodes) : Allowed op s (s.write f d v) := fun p => by
  cases p with
  | consts | aux => exact .inr h
  | _ => exact .inl (by simp [Part.Kept])

theorem dispatch_allowed {addr data : Word} {c : Byte} {dst : StackIx} (h : op ∈ Part.io.writers) :
    Allowed op s (s.dispatch addr data c dst) := fun p => by
  cases p with
  | io => exact .inr h
  | _ => exact .inl (by simp [Part.Kept])

/-- RETN and RET write all five fields of a record (R151). -/
theorem restore_allowed {r : IfuRecord} {rest : List IfuRecord} (h : op = 0x55 ∨ op = 0x56) :
    Allowed op s (s.restore r rest) := fun p => by
  cases p with
  | fp | ifu | mode | trapsEnabled | version => exact .inr (by rcases h with rfl | rfl <;> decide)
  | _ => exact .inl rfl

/-! Each shared end of an instruction -/

theorem setStack_advance_allowed {i ds : StackIx} {v len : Word} : Allowed op s ((s.setStack i v).advance len ds) :=
  setStack_allowed.trans advance_allowed

theorem finishRRR_allowed {o : RRR} {v : Word} (h : op ∈ rrrOpcodes) : Allowed op s (s.finishRRR o v) :=
  (write_allowed h).trans advance_allowed

theorem Allowed.next (h : Allowed op s t) : AllowedEnd op s (.next t) := fun _ ht => by cases ht; exact .inl h

theorem trapIf_allowed {kind : TrapKind} {c : Bool} (h : Allowed op s t) : AllowedEnd op s (s.trapIf kind c t) := fun _ ht => by
  obtain ⟨-, rfl⟩ | ⟨-, -, rfl⟩ := State.trapIf_next ht
  · exact .inl h
  · exact .inr ⟨kind, rfl⟩

/-- Checked and Lisp arithmetic, which clear Carry, end in this form of the trap test. -/
theorem trapIf_setCarry_allowed {kind : TrapKind} {c : Bool} (hop : op ∈ Part.carry.writers) (h : Allowed op s t) :
    AllowedEnd op s (s.trapIf kind c (t.setCarry false)) := trapIf_allowed (h.trans (setCarry_allowed hop))

theorem withDescriptor_allowed {ab : Half} {k : FieldDesc → State} (h : ∀ fd, Allowed op s (k fd)) :
    AllowedEnd op s (withDescriptor ab k) := fun _ ht => by
  obtain ⟨fd, -, rfl⟩ := withDescriptor_next ht
  exact .inl (h fd)

theorem load_allowed {ea : Word} {k : Word → State} (h : ∀ w, Allowed op s (k w)) : AllowedEnd op s (s.load ea k) :=
  fun _ ht => by
  obtain ⟨w, -, -, rfl⟩ := State.load_next ht
  exact .inl (h w)

theorem store_allowed {ea v len : Word} {ds : StackIx} (h : op ∈ Part.mem.writers) : AllowedEnd op s (s.store ea v len ds) :=
  fun _ ht => by
  obtain ⟨-, -, rfl⟩ := State.store_next ht
  exact .inl ((setMem_allowed h).trans advance_allowed)

theorem call_allowed {len target : Word} {ds : StackIx} (h : op ∈ Part.ifu.writers) : AllowedEnd op s (s.call len target ds) :=
  fun _ ht => by
  obtain ⟨-, rfl⟩ := State.call_next ht
  exact .inl ((ifuPush_allowed h).trans jump_allowed)

theorem ifuReturn_allowed (hop : op = 0x55 ∨ op = 0x56) (h : Allowed op s t) : AllowedEnd op s t.ifuReturn := fun _ ht => by
  obtain ⟨r, rest, -, rfl⟩ := State.ifuReturn_next ht
  exact .inl (h.trans (restore_allowed hop))

/-! The instructions with an end of their own -/

theorem execRfu_allowed (o : RRR) (h : op ∈ rrrOpcodes) : AllowedEnd op s (execRfu o s) := by
  unfold execRfu
  split
  · exact withDescriptor_allowed fun _ => finishRRR_allowed h
  · nofun

theorem execCst_allowed (a : Byte) (h : op ∈ Part.mem.writers) : AllowedEnd op s (execCst a s) := by
  unfold execCst
  split
  · nofun
  · next hcst =>
    obtain ⟨-, ⟨-, hw⟩ | ⟨-, rfl⟩⟩ := State.cStore_ok hcst
    · obtain ⟨-, -, rfl⟩ := State.memWrite_ok hw
      exact ((setMem_allowed h).trans setStack_advance_allowed).next
    · exact setStack_advance_allowed.next

theorem execSfci_allowed (h : op ∈ Part.ifu.writers) : AllowedEnd op s (execSfci s) := by
  unfold execSfci
  split
  · nofun
  · exact call_allowed h

theorem execKfc_next (h : execKfc s = .next t) :
    ifuFull s.ifu = false ∧ t = s.kernelEntry (s.pc + 1) (Config.instTrap .kfc) := by
  unfold execKfc at h
  split at h
  · cases h
  · next hf => cases h; exact ⟨Bool.eq_false_iff.mpr hf, rfl⟩

theorem execKfc_allowed : AllowedEnd 0x54 s (execKfc s) := fun _ ht => by
  obtain ⟨-, rfl⟩ := execKfc_next ht
  exact .inl (kernelEntry_allowed (by decide) (by decide))

end

/-! Every instruction -/

/-- R34: an instruction writes the parts that the table gives it, or enters a trap. -/
theorem exec_allowedEnd (i : Instr) (s : State) : AllowedEnd (opcodeOf i) s (exec i s) := by
  cases i with
  | addb | adddb | addqb | add | subb | subdb | subqb | sub | qadd | qsub =>
    exact trapIf_setCarry_allowed (of_decide_eq_true rfl) setStack_advance_allowed
  | ladd | lsub | qladd | qlsub => exact trapIf_setCarry_allowed (of_decide_eq_true rfl) setStack_advance_allowed
  | radd | rsub | rladd | rlsub =>
    exact trapIf_setCarry_allowed (of_decide_eq_true rfl) (finishRRR_allowed (of_decide_eq_true rfl))
  | ruadd | rusub =>
    exact ((finishRRR_allowed (of_decide_eq_true rfl)).trans (setCarry_allowed (of_decide_eq_true rfl))).next
  | rvadd | rvsub | rand | ror | rxor => exact (finishRRR_allowed (of_decide_eq_true rfl)).next
  | and | or | qand | qor => exact setStack_advance_allowed.next
  | shl | shr | shdl | shdr => exact withDescriptor_allowed fun _ => setStack_advance_allowed
  | fsdb => exact ((setField_allowed (of_decide_eq_true rfl)).trans advance_allowed).next
  | rfu o => exact execRfu_allowed o (of_decide_eq_true rfl)
  | j1 | j2 | j3 | j5 => exact advance_allowed.next
  | lib | lidb | liqb => exact setStack_advance_allowed.next
  | lc0 | lc1 | lc2 | lc3 | lc4 | lc5 | lc6 | lc7 | lc8 | lc9 | lc10 | lc11 => exact setStack_advance_allowed.next
  | lfc | dfc | sfc => exact call_allowed (of_decide_eq_true rfl)
  | sfci => exact execSfci_allowed (of_decide_eq_true rfl)
  | kfc => exact execKfc_allowed
  | retn => exact ifuReturn_allowed (.inl rfl) .refl
  | ret => exact ifuReturn_allowed (.inr rfl) setSp_allowed
  | dis | as | asl => exact (setSp_allowed.trans advance_allowed).next
  | als | al => exact ((setFp_allowed (of_decide_eq_true rfl)).trans advance_allowed).next
  | dup | exdis => exact setStack_advance_allowed.next
  | lr0 | lr1 | lr2 | lr3 | lr4 | lr5 | lr6 | lr7 | lr8 | lr9 | lr10 | lr11 | lr12 | lr13 | lr14 | lr15 =>
    exact setStack_advance_allowed.next
  | sr0 | sr1 | sr2 | sr3 | sr4 | sr5 | sr6 | sr7 | sr8 | sr9 | sr10 | sr11 | sr12 | sr13 | sr14 | sr15 =>
    exact setStack_advance_allowed.next
  | rrx => exact load_allowed fun _ => finishRRR_allowed (of_decide_eq_true rfl)
  | qrx | rb | rsb | rx | rri | rai | lgf => exact load_allowed fun _ => setStack_advance_allowed
  | lri0 | lri1 | lri2 | lri3 | lri4 | lri5 | lri6 | lri7 | lri8 | lri9 | lri10 | lri11 | lri12 | lri13 | lri14 | lri15 =>
    exact load_allowed fun _ => setStack_advance_allowed
  | wb | wsb | psb | wri | wai => exact store_allowed (of_decide_eq_true rfl)
  | sri0 | sri1 | sri2 | sri3 | sri4 | sri5 | sri6 | sri7 | sri8 | sri9 | sri10 | sri11 | sri12 | sri13 | sri14 | sri15 =>
    exact store_allowed (of_decide_eq_true rfl)
  | cst a => exact execCst_allowed a (of_decide_eq_true rfl)
  | jb | jdb | jqb | jsd | jsr => exact jump_allowed.next
  | jebb | jebbj | jnebb | jnebbj => exact jump_allowed.next
  | rjlb | rjlbj | rjleb | rjlebj | rjeb | rjebj | rjneb | rjnebj | rjgeb | rjgebj | rjgb | rjgbj => exact jump_allowed.next
  | rbc => exact trapIf_allowed (finishRRR_allowed (of_decide_eq_true rfl))
  | bc => exact trapIf_allowed advance_allowed
  | qbc => exact trapIf_allowed setStack_advance_allowed
  | lip => exact setStack_advance_allowed.next
  | sip => exact ((setProc_allowed (of_decide_eq_true rfl)).trans advance_allowed).next
  | iod | ioda | ion => exact ((dispatch_allowed (of_decide_eq_true rfl)).trans advance_allowed).next

end Sys2Proof.Machine
end

section
/-! What operands write, and what register copies, loads, stores and processor registers do: the equations of their shared ends. -/

namespace Sys2Proof.Machine

/-! The write of Rc (R81) -/

theorem State.stackAt_setLocal (s : State) (n : BitVec 4) (v : Word) (j : StackIx) :
    (s.setLocal n v).stackAt j = if j = s.fp + n.setWidth 7 then v else s.stackAt j := by
  simp only [State.setLocal, State.localIx, State.stackAt_setStack, eq_comm]

theorem State.stackAt_write (s : State) (f : RegFile) (d : Dst) (v : Word) (j : StackIx) :
    (s.write f d v).stackAt j =
      if (∃ n, d = .reg n ∧ f = .locals ∧ j = s.fp + n.setWidth 7) ∨ (d = .top ∧ j = s.sp) ∨ (d = .second ∧ j = s.sp - 1) ∨
        (d = .push ∧ j = s.sp + 1) then v else s.stackAt j := by
  cases d with
  | reg n =>
    cases f with
    | locals => simp [State.write, State.setReg, State.stackAt_setLocal]
    | aux => simp [State.write, State.setReg]
  | const m => simp [State.write]
  | top | second | push => simp [State.write, State.stackAt_setStack, eq_comm]

theorem State.auxAt_write (s : State) (f : RegFile) (d : Dst) (v : Word) (j : BitVec 4) :
    (s.write f d v).auxAt j = if d = .reg j ∧ f = .aux then v else s.auxAt j := by
  cases d with
  | reg n =>
    cases f with
    | locals => simp [State.write, State.setReg]
    | aux => simp [State.write, State.setReg, State.auxAt_setAux]
  | const | top | second | push => simp [State.write]

theorem State.constAt_write (s : State) (f : RegFile) (d : Dst) (v : Word) (j : Fin 12) :
    (s.write f d v).constAt j = if d = .const j then v else s.constAt j := by
  cases d with
  | reg n => cases f <;> simp [State.write, State.setReg]
  | const m => simp [State.write, State.constAt_setConst]
  | top | second | push => simp [State.write]

/-- A write of Rc touches the three register files only. -/
theorem State.write_frame (s : State) (f : RegFile) (d : Dst) (v : Word) :
    s.write f d v = { s with stack := (s.write f d v).stack, aux := (s.write f d v).aux, consts := (s.write f d v).consts } := by
  cases d with
  | reg n => cases f <;> rfl
  | const | top | second | push => rfl

theorem dstDs_eq (d : Dst) : dstDs d = if d = .push then 1 else 0 := by cases d <;> rfl

/-! Where an instruction leaves S and PC (R13) -/

theorem State.advance_zero (s : State) (len : Word) : s.advance len 0 = { s with pc := s.pc + len } := by
  simp [State.advance]

theorem State.advance_neg (s : State) (len : Word) (n : StackIx) :
    s.advance len (-n) = { s with sp := s.sp - n, pc := s.pc + len } := by
  simp only [State.advance, BitVec.sub_eq_add_neg]

theorem State.finishRRR_eq (s : State) (o : RRR) (v : Word) :
    s.finishRRR o v = { s.write o.file o.rc v with sp := s.sp + (srcDs o.ra + srcDs o.rb + dstDs o.rc), pc := s.pc + 3 } := by
  simp [State.finishRRR, State.advance]

/-! Register copies (R173, R174) -/

theorem State.loadLocal_eq (s : State) (n : BitVec 4) :
    s.loadLocal n = .next { s.setStack (s.sp + 1) (s.stackAt (s.fp + n.setWidth 7)) with sp := s.sp + 1, pc := s.pc + 1 } := rfl

theorem State.storeLocal_eq (s : State) (n : BitVec 4) :
    s.storeLocal n = .next { s.setStack (s.fp + n.setWidth 7) s.top with sp := s.sp - 1, pc := s.pc + 1 } :=
  congrArg _ (State.advance_neg _ 1 1)

/-! Loads and stores (R180, R195) -/

/-- Every load stops outside MEM_ADMIT and at a word nothing has written (R58, R40). -/
theorem State.load_stops (s : State) (ea : Word) (k : Word → State) :
    (s.admits ea = false → s.load ea k = .fault .memoryNotAdmitted) ∧
      (s.admits ea = true → s.mem.word ea = none → s.load ea k = .fault .unwritten) :=
  ⟨fun ha => by simp [State.load, State.memRead, ha], fun ha hw => by simp [State.load, State.memRead, ha, hw]⟩

theorem wordStored_putWord (s : State) (ea v len : Word) (ds : StackIx) :
    WordStored s ({ s with mem := s.mem.putWord ea v }.advance len ds) ea v :=
  ⟨Memory.word_putWord_self s.mem ea v, fun c hc => Memory.get_putWord_outside s.mem ea v c (by simp only [dataCell_eq]; omega)⟩

/-- A store that nothing stops writes its word and moves PC; S stays where DS is 0 (R195). -/
theorem State.store_zero_completes {s : State} {ea : Word} (v len : Word) (ha : s.admits ea = true) (ht : s.holdsText ea = false) :
    ∃ t, s.store ea v len 0 = .next t ∧ WordStored s t ea v ∧ t = { s with mem := t.mem, pc := s.pc + len } :=
  ⟨_, State.store_of v len 0 ha ht, wordStored_putWord s ea v len 0, State.advance_zero _ len⟩

/-- A store that nothing stops writes its word and moves PC; S drops by what it pops (R195). -/
theorem State.store_pop_completes {s : State} {ea : Word} (v len : Word) (n : StackIx) (ha : s.admits ea = true)
    (ht : s.holdsText ea = false) :
    ∃ t, s.store ea v len (-n) = .next t ∧ WordStored s t ea v ∧ t = { s with mem := t.mem, sp := s.sp - n, pc := s.pc + len } :=
  ⟨_, State.store_of v len (-n) ha ht, wordStored_putWord s ea v len (-n), State.advance_neg _ len n⟩

end Sys2Proof.Machine
end

section
/-! The statements of spec/10_state.md and spec/60_exceptions.md on who writes what. -/

namespace Sys2Proof.Machine

/-! The writers of mode (R31) -/

theorem mode_writer_cases {i : Instr} (h : opcodeOf i ∈ Part.mode.writers) : i = .kfc ∨ i = .retn ∨ ∃ a, i = .ret a := by
  cases i with
  | kfc => exact .inl rfl
  | retn => exact .inr (.inl rfl)
  | ret a => exact .inr (.inr ⟨a, rfl⟩)
  | _ => exact absurd h (of_decide_eq_false rfl)

theorem execKfc_mode {s t : State} (h : exec .kfc s = .next t) : t.mode = .kernel := by
  obtain ⟨-, rfl⟩ := execKfc_next h
  rfl

theorem exec_return_mode {i : Instr} {s t : State} (hi : i = .retn ∨ ∃ a, i = .ret a) (h : exec i s = .next t) :
    ∃ r rest, s.ifu = r :: rest ∧ t.mode = r.mode := by
  obtain rfl | ⟨a, rfl⟩ := hi <;>
  · obtain ⟨r, rest, hifu, rfl⟩ := State.ifuReturn_next h
    exact ⟨r, rest, hifu, rfl⟩

/-! The writers of Carry (R28) -/

theorem carry_writer_cases : ∀ op ∈ Part.carry.writers, op ∈ [0x16, 0x1E] ∨ op ∈ carryClearers := by decide

theorem trapIf_setCarry_next {s t done : State} {kind : TrapKind} {c : Bool}
    (h : s.trapIf kind c (done.setCarry false) = .next t) : t.carry = false ∨ ∃ k, t = s.trapEntry k := by
  obtain ⟨-, rfl⟩ | ⟨-, -, rfl⟩ := State.trapIf_next h
  · exact .inl rfl
  · exact .inr ⟨kind, rfl⟩

/-- R28: a checked add or subtract or a Lisp instruction clears Carry, unless it traps and so writes nothing. -/
theorem exec_clears_carry {i : Instr} {s t : State} (hi : opcodeOf i ∈ carryClearers) (h : exec i s = .next t) :
    t.carry = false ∨ ∃ k, t = s.trapEntry k := by
  cases i with
  | addb | adddb | addqb | add | radd | qadd => exact trapIf_setCarry_next h
  | subb | subdb | subqb | sub | rsub | qsub => exact trapIf_setCarry_next h
  | ladd | qladd | rladd | lsub | qlsub | rlsub => exact trapIf_setCarry_next h
  | _ => exact absurd hi (of_decide_eq_false rfl)

theorem exec_keeps_carry {i : Instr} {s t : State} (hi : opcodeOf i ∉ Part.carry.writers) (h : exec i s = .next t) :
    t.carry = s.carry := by
  obtain hallowed | ⟨k, rfl⟩ := exec_allowedEnd i s t h
  · exact (hallowed .carry).resolve_right hi
  · rfl

/-! The writers of memory (R195) -/

theorem mem_mem_writers {op : Nat} : op ∈ Part.mem.writers ↔ (0xA0 ≤ op ∧ op ≤ 0xA5) ∨ (0xB0 ≤ op ∧ op ≤ 0xBF) := by
  simp only [Part.writers, List.mem_append, List.mem_range'_1]
  omega

/-! The statements -/

/-- Settles O54: a change of mode is a trap entry, or is one of the three writers' of mode. -/
theorem modeChangesOnlyByEntryAndReturn : Obligations.ModeChangesOnlyByEntryAndReturn := by
  refine fun i s t h => ⟨fun hne => ?_, fun hi => execKfc_mode (hi ▸ h)⟩
  obtain hallowed | ⟨k, rfl⟩ := exec_allowedEnd i s t h
  · obtain rfl | hret := mode_writer_cases ((hallowed .mode).resolve_left hne)
    · exact .inl ⟨execKfc_mode h, .inl rfl⟩
    · exact .inr ⟨hret, exec_return_mode hret h⟩
  · exact .inl ⟨rfl, .inr ⟨k, rfl⟩⟩

/-- Settles O55: RUADD and RUSUB, the instructions that clear Carry, and the others, which keep it. -/
theorem carryIsWrittenAsItsRuleLists : Obligations.CarryIsWrittenAsItsRuleLists := by
  intro i s t h
  by_cases hi : opcodeOf i ∈ Part.carry.writers
  · obtain hunsigned | hclear := carry_writer_cases _ hi
    · exact .inl hunsigned
    · exact .inr (.inl ⟨hclear, exec_clears_carry hclear h⟩)
  · exact .inr (.inr ⟨hi, exec_keeps_carry hi h⟩)

/-- Settles O56: it is the table of R34, part by part; of the parts named a trap entry writes the IFU stack alone. -/
theorem stateIsWrittenOnlyByItsWriters : Obligations.StateIsWrittenOnlyByItsWriters := by
  intro i s t h
  obtain hw | ⟨k, rfl⟩ := exec_allowedEnd i s t h
  · exact ⟨(hw .field).imp_right List.mem_singleton.mp, (hw .procRegs).imp_right List.mem_singleton.mp, hw .fp,
      and_or_right.mpr ⟨hw .trapsEnabled, hw .version⟩, (hw .ifu).imp_right .inl, (hw .mem).imp_right mem_mem_writers.mp,
      hw .io, and_or_right.mpr ⟨hw .consts, hw .aux⟩⟩
  · exact ⟨.inl rfl, .inl rfl, .inl rfl, .inl ⟨rfl, rfl⟩, .inr (.inr ⟨k, rfl⟩), .inl rfl, .inl rfl, .inl ⟨rfl, rfl⟩⟩

end Sys2Proof.Machine
end

section
/-! The statements of spec/10_state.md, spec/30_encoding.md, spec/44_frame_stack_copies.md to spec/46_stores.md and
spec/49_io.md on the state, the operands and the moves between them. -/

namespace Sys2Proof.Machine

/-! Reset -/

/-- Settles O1: every fact is a field of the reset state; a fetch fails as the program image is empty. -/
theorem resetStateAsTheSpecGivesIt : Obligations.ResetStateAsTheSpecGivesIt :=
  ⟨rfl, rfl, fun _ => rfl, fun _ => ⟨rfl, rfl⟩⟩

/-- Settles O2: memory and the IFU stack are both empty after reset. -/
theorem resetMeetsTheInvariant : Obligations.ResetMeetsTheInvariant :=
  ⟨⟨List.Pairwise.nil, nofun⟩, Nat.zero_le _⟩

/-! Operands -/

/-- Settles O12: each form is an equation of the definition that reads it. -/
theorem sourceOperandsReadWhatTheirFormsName : Obligations.SourceOperandsReadWhatTheirFormsName := fun _ _ =>
  ⟨fun _ => rfl, fun _ => rfl, fun _ => rfl, rfl, rfl, rfl, rfl, fun _ => rfl, fun _ => rfl, rfl, rfl, rfl, rfl,
    ⟨rfl, rfl, rfl⟩, ⟨rfl, rfl, rfl⟩, ⟨rfl, rfl, rfl⟩, ⟨rfl, rfl, rfl⟩, ⟨rfl, rfl⟩, ⟨rfl, rfl⟩, ⟨rfl, rfl⟩, ⟨rfl, rfl⟩⟩

/-- Settles O13: the reads of the three register files after the write, and its frame. -/
theorem destinationOperandsWriteOneCell : Obligations.DestinationOperandsWriteOneCell := fun s f d v =>
  ⟨s.stackAt_write f d v, s.auxAt_write f d v, s.constAt_write f d v, s.write_frame f d v, dstDs_eq d⟩

/-! Register copies -/

/-- Settles O37: all 32 are the two shared copies, at the local register their name says. -/
theorem localRegisterCopies : Obligations.LocalRegisterCopies := by
  intro p hp s
  have hexec : exec p.1 s = s.loadLocal p.2.2 ∧ exec p.2.1 s = s.storeLocal p.2.2 := by
    fin_cases hp <;> exact ⟨rfl, rfl⟩
  rw [hexec.1, hexec.2]
  exact ⟨s.loadLocal_eq p.2.2, s.storeLocal_eq p.2.2⟩

/-! Loads -/

/-- LRI0 to LRI15, each with the local register its name says (R186). -/
abbrev indexedLoads : List ((Byte → Instr) × BitVec 4) :=
  [(.lri0, 0), (.lri1, 1), (.lri2, 2), (.lri3, 3), (.lri4, 4), (.lri5, 5), (.lri6, 6), (.lri7, 7), (.lri8, 8), (.lri9, 9),
    (.lri10, 10), (.lri11, 11), (.lri12, 12), (.lri13, 13), (.lri14, 14), (.lri15, 15)]

theorem exec_indexedLoad {p : (Byte → Instr) × BitVec 4} (hp : p ∈ indexedLoads) (a : Byte) (s : State) :
    exec (p.1 a) s = s.loadIndexed p.2 a := by
  fin_cases hp <;> rfl

/-- Settles O38: each is the shared load at its effective address, then the end its row writes out. -/
theorem loadsReadOneWord : Obligations.LoadsReadOneWord := by
  refine ⟨fun o s w ha hw => ?rrx, fun o s w ha hw => ?qrx, fun a s w ha hw => ?rb, fun a s w ha hw => ?rsb,
    fun s w ha hw => ?rx, fun o s w ha hw => ?rri, fun o s w ha hw => ?rai, fun ab s w ha hw => ?lgf, fun p hp a s w ha hw => ?lri⟩
  case rrx => exact (State.load_of _ ha hw).trans (congrArg _ (s.finishRRR_eq o w))
  case qrx | rsb | lgf => exact State.load_of _ ha hw
  case rb => exact (State.load_of _ ha hw).trans (congrArg _ (State.advance_zero _ 2))
  case rx => exact (State.load_of _ ha hw).trans (congrArg _ (State.advance_neg _ 1 1))
  case rri | rai => exact (State.load_of _ ha hw).trans (congrArg _ (State.advance_zero _ 3))
  case lri => exact (exec_indexedLoad hp a s).trans (State.load_of _ ha hw)

/-- Settles O39: each is the shared load at its effective address, which stops there. -/
theorem loadsStopOutsideWrittenMemory : Obligations.LoadsStopOutsideWrittenMemory := by
  refine fun s => ⟨fun o => s.load_stops .., fun o => s.load_stops .., fun a => s.load_stops .., fun a => s.load_stops ..,
    s.load_stops .., fun o => s.load_stops .., fun o => s.load_stops .., fun ab => s.load_stops .., fun p hp a => ?_⟩
  simp only [exec_indexedLoad hp]
  exact s.load_stops ..

/-! Stores -/

/-- SRI0 to SRI15, each with the local register its name says (R199). -/
abbrev indexedStores : List ((Byte → Instr) × BitVec 4) :=
  [(.sri0, 0), (.sri1, 1), (.sri2, 2), (.sri3, 3), (.sri4, 4), (.sri5, 5), (.sri6, 6), (.sri7, 7), (.sri8, 8), (.sri9, 9),
    (.sri10, 10), (.sri11, 11), (.sri12, 12), (.sri13, 13), (.sri14, 14), (.sri15, 15)]

theorem exec_indexedStore {p : (Byte → Instr) × BitVec 4} (hp : p ∈ indexedStores) (a : Byte) (s : State) :
    exec (p.1 a) s = s.storeIndexed p.2 a := by
  fin_cases hp <;> rfl

/-- Settles O40: each is the shared store at its effective address, with S moved by -2, -1 or 0. -/
theorem storesWriteOneWord : Obligations.StoresWriteOneWord := by
  refine ⟨fun a s ha ht => ?wb, fun a s ha ht => ?wsb, fun a s ha ht => ?psb, fun o s ha ht => ?wri, fun o s ha ht => ?wai,
    fun p hp a s ha ht => ?sri⟩
  case wb | wsb => exact State.store_pop_completes _ 2 2 ha ht
  case psb => exact State.store_pop_completes _ 2 1 ha ht
  case wri | wai => exact State.store_zero_completes _ 3 ha ht
  case sri =>
    rw [exec_indexedStore hp]
    exact State.store_pop_completes _ 2 1 ha ht

/-! Processor registers -/

/-- Settles O49: the push of LIP; the write of SIP, which reads back at `a` alone. -/
theorem processorRegistersAreIndependentCells : Obligations.ProcessorRegistersAreIndependentCells := fun a s =>
  ⟨rfl, _, rfl, State.advance_neg _ 2 1, by simp [State.procAt_setProc], fun b hb => by simp [State.procAt_setProc, hb.symm]⟩

end Sys2Proof.Machine
end

section
/-! What a step leaves of memory: program text reads and fetches as before; and where fetching and storing stop. -/

namespace Sys2Proof.Machine

/-! A step and its fetch (R13, R14) -/

/-- A step that answers a next state fetched an instruction and ran it. -/
theorem step_next {s t : State} (h : step s = .next t) : ∃ i, s.fetchInstr = .next i ∧ exec i s = .next t := by
  unfold step at h
  split at h
  · cases h
  · cases h
  · next i hf => exact ⟨i, hf, h⟩

theorem State.fetchByte_outside {s : State} {ba : Word} (ht : s.inText ba = false) :
    s.fetchByte ba = .error .memoryNotAdmitted := by
  simp [State.fetchByte, ht]

theorem State.fetchByte_unwritten {s : State} {ba : Word} (ht : s.inText ba = true) (hm : s.mem.get ba.toNat = none) :
    s.fetchByte ba = .error .unwritten := by
  simp [State.fetchByte, ht, hm]

theorem State.fetchByte_of {s : State} {ba : Word} {b : Byte} (ht : s.inText ba = true) (hm : s.mem.get ba.toNat = some b) :
    s.fetchByte ba = .ok b := by
  simp [State.fetchByte, ht, hm]

/-- A step stops as the fetch of its opcode does (R58, R40). -/
theorem step_of_fetchByte_error {s : State} {f : Fault} (h : s.fetchByte s.pc = .error f) : step s = .fault f := by
  simp only [step, State.fetchInstr, h]

theorem step_of_unassigned {s : State} {op : Byte} (h : s.fetchByte s.pc = .ok op) (hop : opLength op = none) :
    step s = .refused (.unassignedOpcode op) := by
  simp only [step, State.fetchInstr, h, hop]

/-! What becomes of memory (R54, R63) -/

/-- Memory in `t` is that of `s`, or that of `s` with one word written over that holds no program text. -/
def StoredOutsideText (s t : State) : Prop :=
  t.mem = s.mem ∨ ∃ wa v, s.holdsText wa = false ∧ t.mem = s.mem.putWord wa v

theorem storedOutsideText_of_memWrite {s t : State} {wa v : Word} (h : s.memWrite wa v = .ok t) : StoredOutsideText s t := by
  obtain ⟨-, ht, rfl⟩ := State.memWrite_ok h
  exact .inr ⟨wa, v, ht, rfl⟩

theorem storedOutsideText_of_store {s t : State} {ea v len : Word} {ds : StackIx} (h : s.store ea v len ds = .next t) :
    StoredOutsideText s t := by
  obtain ⟨-, ht, rfl⟩ := State.store_next h
  exact .inr ⟨ea, v, ht, rfl⟩

theorem storedOutsideText_of_execCst {s t : State} {a : Byte} (h : execCst a s = .next t) : StoredOutsideText s t := by
  unfold execCst at h
  split at h
  · cases h
  · next r u hcst =>
    cases h
    obtain ⟨-, ⟨-, hw⟩ | ⟨-, rfl⟩⟩ := State.cStore_ok hcst
    · exact storedOutsideText_of_memWrite (t := u) hw
    · exact .inl rfl

/-- R63: the writers of memory store outside program text. -/
theorem storedOutsideText_of_writer {i : Instr} {s t : State} (hi : opcodeOf i ∈ Part.mem.writers) (h : exec i s = .next t) :
    StoredOutsideText s t := by
  cases i with
  | wb | wsb | psb | wri | wai => exact storedOutsideText_of_store h
  | cst => exact storedOutsideText_of_execCst h
  | sri0 | sri1 | sri2 | sri3 | sri4 | sri5 | sri6 | sri7 | sri8 | sri9 | sri10 | sri11 | sri12 | sri13 | sri14 | sri15 =>
    exact storedOutsideText_of_store h
  | _ => exact absurd hi (of_decide_eq_false rfl)

/-- No instruction and no trap entry writes the program image or MEM_ADMIT, or stores into program text (R34, R63, R264). -/
theorem exec_keeps_text {i : Instr} {s t : State} (h : exec i s = .next t) :
    t.text = s.text ∧ t.admitted = s.admitted ∧ StoredOutsideText s t := by
  obtain hallowed | ⟨k, rfl⟩ := exec_allowedEnd i s t h
  · exact ⟨(hallowed .text).resolve_right List.not_mem_nil, (hallowed .admitted).resolve_right List.not_mem_nil,
      (hallowed .mem).elim .inl fun hi => storedOutsideText_of_writer hi h⟩
  · exact ⟨rfl, rfl, .inl rfl⟩

/-- A cell of program text is none of the four cells of a word that holds no program text (R52). -/
theorem State.textCell_ne_dataCell {s : State} {wa : Word} {a k : Nat} (ht : s.holdsText wa = false) (ha : s.textCell a)
    (hk : k < 4) : a ≠ dataCell wa k := by
  rintro rfl
  obtain ⟨hlt, hin⟩ := ha
  exact Bool.false_ne_true ((State.holdsText_false ht k hk hlt).symm.trans hin)

theorem StoredOutsideText.get_textCell {s t : State} (h : StoredOutsideText s t) {a : Nat} (ha : s.textCell a) :
    t.mem.get a = s.mem.get a := by
  obtain hmem | ⟨wa, v, ht, hmem⟩ := h
  · rw [hmem]
  · have hne (k : Nat) (hk : k < 4) : a ≠ dataCell wa k := State.textCell_ne_dataCell ht ha hk
    rw [hmem, Memory.get_putWord, if_neg (hne 3 (by decide)), if_neg (hne 2 (by decide)), if_neg (hne 1 (by decide)),
      if_neg (hne 0 (by decide))]

theorem State.textCell_toNat {s : State} {ba : Word} : s.textCell ba.toNat ↔ s.inText ba = true := by
  simp [State.textCell, ba.isLt]

/-- What is fetched depends on the program image and the cells that hold program text alone (R52, R58). -/
theorem State.fetchByte_congr {s t : State} (htext : t.text = s.text)
    (hmem : ∀ a, s.textCell a → t.mem.get a = s.mem.get a) (ba : Word) : t.fetchByte ba = s.fetchByte ba := by
  have hin : t.inText ba = s.inText ba := by simp only [State.inText, htext]
  cases ht : s.inText ba with
  | false => rw [State.fetchByte_outside ht, State.fetchByte_outside (hin.trans ht)]
  | true => simp only [State.fetchByte, hin, hmem _ (State.textCell_toNat.mpr ht)]

/-! Loads and stores (R50, R58, R63) -/

/-- What is read at an address depends on MEM_ADMIT and the word there alone. -/
theorem State.memRead_congr {s t : State} {wa : Word} (hadm : t.admitted = s.admitted) (hword : t.mem.word wa = s.mem.word wa) :
    t.memRead wa = s.memRead wa := by
  have hadmits : t.admits wa = s.admits wa := by simp only [State.admits, hadm]
  rw [State.memRead, State.memRead, hadmits, hword]

/-- Every store stops outside MEM_ADMIT and at a word that holds program text. -/
theorem State.store_stops (s : State) (ea v len : Word) (ds : StackIx) :
    (s.admits ea = false → s.store ea v len ds = .fault .memoryNotAdmitted) ∧
      (s.admits ea = true → s.holdsText ea = true → s.store ea v len ds = .fault .storeToText) :=
  ⟨fun ha => by simp [State.store, State.memWrite, ha], fun ha ht => by simp [State.store, State.memWrite, ha, ht]⟩

end Sys2Proof.Machine
end

section
/-! The statements of spec/20_memory.md. -/

namespace Sys2Proof.Machine

/-- Settles O4: the instruction fetched keeps the program image and stores outside it, on which alone fetching depends. -/
theorem stepKeepsWhatIsFetched : Obligations.StepKeepsWhatIsFetched := by
  intro s t h
  obtain ⟨i, -, hexec⟩ := step_next h
  obtain ⟨htext, hadm, hstored⟩ := exec_keeps_text hexec
  have hmem (a : Nat) (ha : s.textCell a) : t.mem.get a = s.mem.get a := hstored.get_textCell ha
  exact ⟨htext, hadm, hmem, State.fetchByte_congr htext hmem⟩

/-- Settles O43: the word written reads back, and the write of a word leaves every other word alone. -/
theorem loadAfterStoreReturnsTheStoredWord : Obligations.LoadAfterStoreReturnsTheStoredWord := by
  intro s t wa v h
  obtain ⟨ha, -, rfl⟩ := State.memWrite_ok h
  exact ⟨State.memRead_of ha (Memory.word_putWord_self s.mem wa v),
    fun x hx => State.memRead_congr rfl (Memory.word_putWord_ne s.mem v hx)⟩

/-- Settles O11: the fetch of the opcode byte decides all three stops. -/
theorem stepStopsWhereNothingIsFetched : Obligations.StepStopsWhereNothingIsFetched := fun _ =>
  ⟨fun ht => step_of_fetchByte_error (State.fetchByte_outside ht),
    fun ht hm => step_of_fetchByte_error (State.fetchByte_unwritten ht hm),
    fun _ ht hm hop => step_of_unassigned (State.fetchByte_of ht hm) hop⟩

/-- Settles O41: each is the shared store at its effective address, which stops there. -/
theorem storesStopAtTextAndOutsideMemory : Obligations.StoresStopAtTextAndOutsideMemory := by
  refine fun s => ⟨fun a => s.store_stops .., fun a => s.store_stops .., fun a => s.store_stops .., fun o => s.store_stops ..,
    fun o => s.store_stops .., fun p hp a => ?_⟩
  simp only [exec_indexedStore hp]
  exact s.store_stops ..

end Sys2Proof.Machine
end

section
/-! Operand bytes and back: the encoder writes of the decoded operands the bytes they were read from. -/

namespace Sys2Proof

/-! Codes of the operand forms (R78 to R83) -/

theorem flag_regFileOf (b : Bool) : (regFileOf Config.regCode b).flag Config.regCode = BitVec.ofBool b := by cases b <;> rfl

/-- Every code of Ra and Rb is assigned, each to a form of its own (R79). -/
theorem opt_code_srcOf (opt : Bool) (f : BitVec 4) :
    (srcOf Config.regCode opt f).opt = opt ∧ (srcOf Config.regCode opt f).code Config.regCode = f := by
  revert opt f; decide +kernel

/-- No two codes of Rc are assigned to one form (R81). -/
theorem opt_code_dstOf {opt : Bool} {f : BitVec 4} {d : Dst} (h : dstOf Config.regCode opt f = some d) :
    d.opt = opt ∧ d.code Config.regCode = f := by
  have key : ∀ opt f, ∀ d ∈ dstOf Config.regCode opt f, d.opt = opt ∧ d.code Config.regCode = f := by decide +kernel
  exact key opt f d h

/-- Rc code 15 is the one reserved code (R81, D4). -/
theorem dstOf_eq_none_iff (opt : Bool) (f : BitVec 4) : dstOf Config.regCode opt f = none ↔ opt = true ∧ f = 15 := by
  revert opt f; decide +kernel

theorem code_qOf (q : BitVec 2) : (qOf Config.regCode q).code Config.regCode = q := by revert q; decide +kernel

theorem code_tOf (t : BitVec 2) : (tOf Config.regCode t).code Config.regCode = t := by revert t; decide +kernel

/-! The fields of a byte put together again -/

theorem join_two_four (x : Byte) :
    fieldAt (x.extractLsb' 6 2) 6 ||| (fieldAt (BitVec.ofBool (x.getLsbD 5)) 5 ||| fieldAt (BitVec.ofBool (x.getLsbD 4)) 4 |||
      fieldAt (x.extractLsb' 0 4) 0) = x := by
  revert x; decide +kernel

theorem join_flags_four (x : Byte) :
    fieldAt (BitVec.ofBool (x.getLsbD 7)) 7 ||| fieldAt (BitVec.ofBool (x.getLsbD 6)) 6 |||
      (fieldAt (BitVec.ofBool (x.getLsbD 5)) 5 ||| fieldAt (BitVec.ofBool (x.getLsbD 4)) 4 ||| fieldAt (x.extractLsb' 0 4) 0) = x := by
  revert x; decide +kernel

theorem join_four_four (x : Byte) : fieldAt (x.extractLsb' 4 4) 4 ||| fieldAt (x.extractLsb' 0 4) 0 = x := by
  revert x; decide +kernel

/-! The bytes of decoded operands -/

/-- bOpt, A and Rb of a byte, written of what is read from that byte (R77, R82, R83). -/
theorem rbBits_of (x : Byte) :
    rbBits Config.regCode (regFileOf Config.regCode (x.getLsbD 4)) (srcOf Config.regCode (x.getLsbD 5) (x.extractLsb' 0 4)) =
      fieldAt (BitVec.ofBool (x.getLsbD 5)) 5 ||| fieldAt (BitVec.ofBool (x.getLsbD 4)) 4 ||| fieldAt (x.extractLsb' 0 4) 0 := by
  obtain ⟨hopt, hcode⟩ := opt_code_srcOf (x.getLsbD 5) (x.extractLsb' 0 4)
  rw [rbBits, hopt, hcode, flag_regFileOf]
  rfl

theorem qrByte_qrOf (x : Byte) : qrByte Config.regCode (qrOf Config.regCode x) = x := by
  refine Eq.trans ?_ (join_two_four x)
  rw [← rbBits_of]
  exact congrArg (fun q => fieldAt q 6 ||| _) (code_qOf _)

theorem rdBytes_rdOf (x y : Byte) : rdBytes Config.regCode (rdOf Config.regCode x y) = [x, y] := by
  refine congrArg (fun b => [b, y]) (Eq.trans ?_ (join_two_four x))
  rw [← rbBits_of]
  exact congrArg (fun t => fieldAt t 6 ||| _) (code_tOf _)

theorem xroBytes_xroOf (x y : Byte) : xroBytes Config.regCode (xroOf Config.regCode x y) = [x, y] :=
  congrArg (fun b => [b, y]) (join_four_four x)

theorem lioBytes_lioOf (split : Config.LioSplit) (a b : Byte) : lioBytes split (lioOf split a b) = [a, b] := by
  cases split <;> rfl

/-- What is read from two bytes as RRR operands, with the code of Rc assigned. -/
theorem rrrOf_eq_some {x y : Byte} {o : RRR} (h : rrrOf Config.regCode x y = some o) :
    ∃ d, dstOf Config.regCode (x.getLsbD 6) (y.extractLsb' 4 4) = some d ∧
      o = ⟨regFileOf Config.regCode (x.getLsbD 4), srcOf Config.regCode (x.getLsbD 7) (y.extractLsb' 0 4),
        srcOf Config.regCode (x.getLsbD 5) (x.extractLsb' 0 4), d⟩ := by
  unfold rrrOf at h
  split at h
  · cases h
  · next d hd => exact ⟨d, hd, (Option.some.inj h).symm⟩

/-- RRR operands are refused for the reserved Rc code alone (R81). -/
theorem rrrOf_eq_none_iff (x y : Byte) : rrrOf Config.regCode x y = none ↔ x.getLsbD 6 = true ∧ y.extractLsb' 4 4 = 15 := by
  rw [← dstOf_eq_none_iff]
  unfold rrrOf
  split
  · next h => exact iff_of_true rfl h
  · next d h => exact iff_of_false nofun fun hn => nomatch h.symm.trans hn

theorem rrrBytes_of_rrrOf {x y : Byte} {o : RRR} (h : rrrOf Config.regCode x y = some o) : rrrBytes Config.regCode o = [x, y] := by
  obtain ⟨d, hd, rfl⟩ := rrrOf_eq_some h
  obtain ⟨hcOpt, hc⟩ := opt_code_dstOf hd
  obtain ⟨haOpt, ha⟩ := opt_code_srcOf (x.getLsbD 7) (y.extractLsb' 0 4)
  simp only [rrrBytes, hcOpt, hc, haOpt, ha, rbBits_of]
  exact congrArg₂ (fun a b => [a, b]) (join_flags_four x) (join_four_four y)

theorem halfBytes_halfOf (a b : Byte) : halfBytes (halfOf a b) = [a, b] :=
  congrArg₂ (fun x y => [x, y]) BitVec.extractLsb'_append_eq_left BitVec.extractLsb'_append_eq_right

theorem halfOf_halfBytes (ab : Half) : halfOf (ab.extractLsb' 8 8) (ab.extractLsb' 0 8) = ab := by
  rw [halfOf, BitVec.extractLsb'_append_extractLsb'_eq_extractLsb' (by decide)]
  exact BitVec.extractLsb'_eq_self

theorem wordBytes_wordOf (a b g d : Byte) : wordBytes (wordOf a b g d) = [a, b, g, d] := by
  have ha : (wordOf a b g d).extractLsb' 24 8 = a := calc
    _ = (a ++ b ++ g).extractLsb' 16 8 := BitVec.extractLsb'_append_eq_of_le (by decide)
    _ = (a ++ b).extractLsb' 8 8 := BitVec.extractLsb'_append_eq_of_le (by decide)
    _ = a := BitVec.extractLsb'_append_eq_left
  have hb : (wordOf a b g d).extractLsb' 16 8 = b := calc
    _ = (a ++ b ++ g).extractLsb' 8 8 := BitVec.extractLsb'_append_eq_of_le (by decide)
    _ = (a ++ b).extractLsb' 0 8 := BitVec.extractLsb'_append_eq_of_le (by decide)
    _ = b := BitVec.extractLsb'_append_eq_right
  have hg : (wordOf a b g d).extractLsb' 8 8 = g := calc
    _ = (a ++ b ++ g).extractLsb' 0 8 := BitVec.extractLsb'_append_eq_of_le (by decide)
    _ = g := BitVec.extractLsb'_append_eq_right
  have hd : (wordOf a b g d).extractLsb' 0 8 = d := BitVec.extractLsb'_append_eq_right
  rw [wordBytes, ha, hb, hg, hd]

theorem wordOf_wordBytes (w : Word) :
    wordOf (w.extractLsb' 24 8) (w.extractLsb' 16 8) (w.extractLsb' 8 8) (w.extractLsb' 0 8) = w := by
  rw [wordOf, BitVec.extractLsb'_append_extractLsb'_eq_extractLsb' (by decide),
    BitVec.extractLsb'_append_extractLsb'_eq_extractLsb' (by decide),
    BitVec.extractLsb'_append_extractLsb'_eq_extractLsb' (by decide)]
  exact BitVec.extractLsb'_eq_self

end Sys2Proof
end

section
/-! The decoder and the encoder, format by format: the decoder reads exactly what the encoder writes. -/

namespace Sys2Proof

/-- What the encoder writes after the opcode of an instruction of a format: the format's constructor applied to operands, and
the bytes of these operands (R71). -/
inductive Form.Writes (c : Config.Coding) : Form → Instr → List Byte → Prop
  | i (f : Instr) : Writes c (.i f) f []
  | lr (f : Instr) : Writes c (.lr f) f []
  | lb (f : Byte → Instr) (a : Byte) : Writes c (.lb f) (f a) [a]
  | xo (f : Byte → Instr) (a : Byte) : Writes c (.xo f) (f a) [a]
  | lbd (f : Byte → Byte → Instr) (a b : Byte) : Writes c (.lbd f) (f a b) [a, b]
  | lh (f : Half → Instr) (ab : Half) : Writes c (.lh f) (f ab) (halfBytes ab)
  | lw (f : Word → Instr) (w : Word) : Writes c (.lw f) (f w) (wordBytes w)
  | rrr (f : RRR → Instr) (o : RRR) : Writes c (.rrr f) (f o) (rrrBytes c.regCode o)
  | qr (f : QR → Instr) (o : QR) : Writes c (.qr f) (f o) [qrByte c.regCode o]
  | rd (f : RD → Instr) (o : RD) : Writes c (.rd f) (f o) (rdBytes c.regCode o)
  | xro (f : XRO → Instr) (o : XRO) : Writes c (.xro f) (f o) (xroBytes c.regCode o)
  | lio (f : LIO → Instr) (o : LIO) : Writes c (.lio f) (f o) (lioBytes c.lioSplit o)

/-- Every instruction is written as the format of its mnemonic says (R71, R89). -/
theorem Instr.form_writes (c : Config.Coding) (i : Instr) : i.mnemonic.form.Writes c i (operandBytes c i) := by
  cases i with
  | add | sub | and | or | j1 | lc0 | lc1 | lc2 | lc3 | lc4 | lc5 | lc6 | lc7 | lc8 | lc9 | lc10 | lc11 | sfc | sfci | kfc | retn
  | dis | dup | exdis | rx | jsd | jsr | bc | ladd | lsub => exact .i _
  | lr0 | lr1 | lr2 | lr3 | lr4 | lr5 | lr6 | lr7 | lr8 | lr9 | lr10 | lr11 | lr12 | lr13 | lr14 | lr15 | sr0 | sr1 | sr2 | sr3
  | sr4 | sr5 | sr6 | sr7 | sr8 | sr9 | sr10 | sr11 | sr12 | sr13 | sr14 | sr15 => exact .lr _
  | addb | subb | j2 | lib | ret | as | asl | als | al | rb | rsb | wb | wsb | psb | cst | jb | lip | sip => exact .lb _ _
  | lri0 | lri1 | lri2 | lri3 | lri4 | lri5 | lri6 | lri7 | lri8 | lri9 | lri10 | lri11 | lri12 | lri13 | lri14 | lri15 | sri0
  | sri1 | sri2 | sri3 | sri4 | sri5 | sri6 | sri7 | sri8 | sri9 | sri10 | sri11 | sri12 | sri13 | sri14 | sri15 =>
    exact .xo _ _
  | adddb | subdb | shl | shr | shdl | shdr | fsdb | j3 | lidb | lfc | lgf | jdb => exact .lh _ _
  | addqb | subqb | j5 | liqb | dfc | jqb => exact .lw _ _
  | radd | ruadd | rvadd | rsub | rusub | rvsub | rand | ror | rxor | rfu | rrx | rbc | rladd | rlsub => exact .rrr _ _
  | qadd | qsub | qand | qor | qrx | qbc | qladd | qlsub => exact .qr _ _
  | rjlb | rjlbj | rjleb | rjlebj | rjeb | rjebj | rjneb | rjnebj | rjgeb | rjgebj | rjgb | rjgbj => exact .rd _ _
  | jebb | jebbj | jnebb | jnebbj => exact .lbd _ _ _
  | rri | rai | wri | wai => exact .xro _ _
  | iod | ioda | ion => exact .lio _ _

/-- The format of a mnemonic gives operands to that mnemonic's own constructor, so it writes what the encoder writes. -/
theorem Mnemonic.eq_of_form_writes {c : Config.Coding} {m : Mnemonic} {i : Instr} {bs : List Byte} (h : m.form.Writes c i bs) :
    i.mnemonic = m ∧ bs = operandBytes c i := by
  cases m <;> (cases h; exact ⟨rfl, rfl⟩)

/-- The coding with the reference operand codes, OPC and LIO_SPLIT free (R88, R86). -/
abbrev Config.codingOf (opc : Mnemonic → Byte) (split : Config.LioSplit) : Config.Coding := ⟨opc, Config.regCode, split⟩

section
variable {opc : Mnemonic → Byte} {split : Config.LioSplit}

/-- The decoder reads from a format's bytes the instruction they are of. -/
theorem decodeForm_of_writes {f : Form} {i : Instr} {bs : List Byte} (h : f.Writes (Config.codingOf opc split) i bs)
    (rest : List Byte) : decodeForm (Config.codingOf opc split) f (bs ++ rest) = .ok (i, rest) := by
  cases h with
  | i | lr | lb | xo | lbd => rfl
  | lh f ab => exact congrArg (fun x => Except.ok (f x, rest)) (halfOf_halfBytes ab)
  | lw f w => exact congrArg (fun x => Except.ok (f x, rest)) (wordOf_wordBytes w)
  | qr f o => exact congrArg (fun x => Except.ok (f x, rest)) (qrOf_qrByte o)
  | rrr f o =>
    obtain ⟨x, y, hbytes, hof⟩ := rrrOf_rrrBytes o
    simp only [hbytes, List.cons_append, List.nil_append, decodeForm, hof]
  | rd f o =>
    obtain ⟨x, y, hbytes, rfl⟩ := rdOf_rdBytes o
    rw [hbytes]
    rfl
  | xro f o =>
    obtain ⟨x, y, hbytes, rfl⟩ := xroOf_xroBytes o
    rw [hbytes]
    rfl
  | lio f o =>
    obtain ⟨x, y, hbytes, rfl⟩ := lioOf_lioBytes split o
    rw [hbytes]
    rfl

/-- What the decoder reads of a format it read from bytes that the format writes. -/
theorem Form.writes_of_decodeForm {f : Form} {i : Instr} {r rest : List Byte}
    (h : decodeForm (Config.codingOf opc split) f r = .ok (i, rest)) :
    ∃ bs, f.Writes (Config.codingOf opc split) i bs ∧ r = bs ++ rest := by
  unfold decodeForm at h
  split at h
  case h_1 => cases h; exact ⟨_, .i _, rfl⟩
  case h_2 => cases h; exact ⟨_, .lr _, rfl⟩
  case h_3 => cases h; exact ⟨_, .lb _ _, rfl⟩
  case h_4 => cases h; exact ⟨_, .xo _ _, rfl⟩
  case h_5 a r => cases h; exact ⟨_, .qr _ _, by rw [qrByte_qrOf]; rfl⟩
  case h_6 a b r => cases h; exact ⟨_, .lh _ _, by rw [halfBytes_halfOf]; rfl⟩
  case h_7 => cases h; exact ⟨_, .lbd _ _ _, rfl⟩
  case h_8 a b r => cases h; exact ⟨_, .rd _ _, by rw [rdBytes_rdOf]; rfl⟩
  case h_9 a b r => cases h; exact ⟨_, .xro _ _, by rw [xroBytes_xroOf]; rfl⟩
  case h_10 a b r => cases h; exact ⟨_, .lio _ _, by rw [lioBytes_lioOf]; rfl⟩
  case h_11 a b r =>
    split at h
    · cases h
    · next o ho => cases h; exact ⟨_, .rrr _ _, by rw [rrrBytes_of_rrrOf ho]; rfl⟩
  case h_12 a b g d r => cases h; exact ⟨_, .lw _ _, by rw [wordBytes_wordOf]; rfl⟩
  case h_13 => cases h

/-- The decoder reads exactly what the encoder writes: an instruction with the mnemonic whose format it reads. -/
theorem decodeForm_form_ok_iff {m : Mnemonic} {i : Instr} {r rest : List Byte} :
    decodeForm (Config.codingOf opc split) m.form r = .ok (i, rest) ↔
      i.mnemonic = m ∧ r = operandBytes (Config.codingOf opc split) i ++ rest := by
  constructor
  · intro h
    obtain ⟨bs, hw, rfl⟩ := Form.writes_of_decodeForm h
    obtain ⟨hm, rfl⟩ := Mnemonic.eq_of_form_writes hw
    exact ⟨hm, rfl⟩
  · rintro ⟨rfl, rfl⟩
    exact decodeForm_of_writes (i.form_writes _) rest

end

/-! The decoder after the opcode byte -/

theorem decodeWith_of_mnemonicOf_none {c : Config.Coding} {op : Byte} (h : mnemonicOf c.opc op = none) (r : List Byte) :
    decodeWith c (op :: r) = .error (.unassignedOpcode op) := by
  simp only [decodeWith, h]

theorem decodeWith_of_decodeForm_error {c : Config.Coding} {op : Byte} {m : Mnemonic} {r : List Byte} {e : DecodeError}
    (hm : mnemonicOf c.opc op = some m) (h : decodeForm c m.form r = .error e) : decodeWith c (op :: r) = .error e := by
  simp only [decodeWith, hm, h]

theorem decodeWith_of_decodeForm_ok {c : Config.Coding} {op : Byte} {m : Mnemonic} {r rest : List Byte} {i : Instr}
    (hm : mnemonicOf c.opc op = some m) (h : decodeForm c m.form r = .ok (i, rest)) :
    decodeWith c (op :: r) = if wellFormed i then .ok (i, rest) else .error .fieldDescriptor := by
  simp only [decodeWith, hm, h]

/-- Under an injective opcode map the decoder reads a well-formed instruction from its encoding (R88). -/
theorem decodeWith_encodeWith {opc : Mnemonic → Byte} (hopc : Function.Injective opc) (split : Config.LioSplit) {i : Instr}
    (hi : wellFormed i = true) (rest : List Byte) :
    decodeWith (Config.codingOf opc split) (encodeWith (Config.codingOf opc split) i ++ rest) = .ok (i, rest) := by
  have hform := decodeForm_of_writes (i.form_writes (Config.codingOf opc split)) rest
  exact (decodeWith_of_decodeForm_ok (mnemonicOf_opc hopc i.mnemonic) hform).trans (if_pos hi)

/-- REF_OPC gives no byte value twice, for a byte reads back as the mnemonic that has it (R90). -/
theorem Config.refOpc_injective : Function.Injective Config.refOpc := by
  intro m n h
  have hm := mnemonicOf_refOpc m
  rw [h, mnemonicOf_refOpc n] at hm
  exact (Option.some.inj hm).symm

end Sys2Proof
end

section
/-! Which opcode bytes and operand bytes the decoder refuses. -/

namespace Sys2Proof

/-- The opcodes of format RRR in REF_OPC, the format with a reserved operand code (R81, R90). -/
def rrrOpcodes : List Byte := [0x14, 0x16, 0x17, 0x1C, 0x1E, 0x1F, 0x21, 0x24, 0x26, 0x2D, 0x80, 0xE0, 0xEA, 0xED]

/-- SHL, SHR, SHDL and SHDR in REF_OPC, the opcodes whose literal is a field descriptor (R130, R90). -/
def shiftOpcodes : List Byte := [0x28, 0x29, 0x2A, 0x2B]

def Form.isRRR : Form → Bool
  | .rrr _ => true
  | _ => false

theorem Form.isRRR_iff {f : Form} : f.isRRR = true ↔ ∃ g, f = .rrr g := by cases f <;> simp [Form.isRRR]

theorem form_isRRR_iff (m : Mnemonic) : m.form.isRRR = true ↔ Config.refOpc m ∈ rrrOpcodes := by
  have h : ∀ x ∈ Mnemonic.all, x.form.isRRR = true ↔ Config.refOpc x ∈ rrrOpcodes := by decide +kernel
  exact h m m.mem_all

theorem exists_mnemonic_of_rrrOpcode {op : Byte} (h : op ∈ rrrOpcodes) : ∃ m g, Config.refOpc m = op ∧ m.form = .rrr g := by
  have key : ∀ x ∈ rrrOpcodes, ∃ m ∈ Mnemonic.all, Config.refOpc m = x := by decide +kernel
  obtain ⟨m, -, rfl⟩ := key op h
  obtain ⟨g, hg⟩ := Form.isRRR_iff.mp ((form_isRRR_iff m).mpr h)
  exact ⟨m, g, rfl, hg⟩

/-- Only the four shifts by a literal have operands that may be out of range (R93). -/
theorem wellFormed_of_not_shift {i : Instr} (h : Config.refOpc i.mnemonic ∉ shiftOpcodes) : wellFormed i = true := by
  cases i with
  | shl | shr | shdl | shdr => exact absurd (of_decide_eq_true rfl) h
  | _ => rfl

theorem exists_mnemonic_of_shiftOpcode {op : Byte} (h : op ∈ shiftOpcodes) :
    ∃ m g, Config.refOpc m = op ∧ m.form = .lh g ∧ ∀ ab, wellFormed (g ab) = descriptorOk ab := by
  simp only [shiftOpcodes, List.mem_cons, List.not_mem_nil, or_false] at h
  obtain rfl | rfl | rfl | rfl := h
  · exact ⟨.shl, .shl, rfl, rfl, fun _ => rfl⟩
  · exact ⟨.shr, .shr, rfl, rfl, fun _ => rfl⟩
  · exact ⟨.shdl, .shdl, rfl, rfl, fun _ => rfl⟩
  · exact ⟨.shdr, .shdr, rfl, rfl, fun _ => rfl⟩

/-- The range of a literal descriptor, read from its two bytes (R130). -/
theorem descriptorOk_append_iff (a b : Byte) :
    descriptorOk (a ++ b) = true ↔
      (a ++ b : Half).extractLsb' 13 3 = 0 ∧ ((a ++ b : Half).extractLsb' 6 6).toNat ≤ 32 ∧ (b.extractLsb' 0 6).toNat ≤ 32 := by
  have hlow : (a ++ b : Half).extractLsb' 0 6 = b.extractLsb' 0 6 := BitVec.extractLsb'_append_eq_of_add_le (by decide)
  simp only [descriptorOk, hlow, Bool.and_eq_true, beq_iff_eq, decide_eq_true_eq, and_assoc]

/-- Outside the four shifts the decoder accepts whatever operands it reads. -/
theorem decode_of_not_shift {m : Mnemonic} {r rest : List Byte} {i : Instr} (hm : Config.refOpc m ∉ shiftOpcodes)
    (h : decodeForm Config.coding m.form r = .ok (i, rest)) : decode (Config.refOpc m :: r) = .ok (i, rest) := by
  obtain ⟨rfl, -⟩ := decodeForm_form_ok_iff.mp h
  exact (decodeWith_of_decodeForm_ok (mnemonicOf_refOpc _) h).trans (if_pos (wellFormed_of_not_shift hm))

theorem decode_shift {m : Mnemonic} {g : Half → Instr} (hform : m.form = .lh g)
    (hwf : ∀ ab, wellFormed (g ab) = descriptorOk ab) (a b : Byte) (r : List Byte) :
    decode (Config.refOpc m :: a :: b :: r) =
      if descriptorOk (a ++ b) then .ok (g (a ++ b), r) else .error .fieldDescriptor := by
  have h : decodeForm Config.coding m.form (a :: b :: r) = .ok (g (a ++ b), r) := by rw [hform]; rfl
  rw [← hwf]
  exact decodeWith_of_decodeForm_ok (mnemonicOf_refOpc m) h

theorem decodeForm_rrr_of_none {c : Config.Coding} {g : RRR → Instr} {x y : Byte} (h : rrrOf c.regCode x y = none)
    (r : List Byte) : decodeForm c (.rrr g) (x :: y :: r) = .error .reservedRcCode := by
  simp only [decodeForm, h]

theorem decodeForm_rrr_of_some {c : Config.Coding} {g : RRR → Instr} {x y : Byte} {o : RRR} (h : rrrOf c.regCode x y = some o)
    (r : List Byte) : decodeForm c (.rrr g) (x :: y :: r) = .ok (g o, r) := by
  simp only [decodeForm, h]

/-- Of enough bytes every format but RRR is read, whatever the bytes are (R93). -/
theorem exists_decodeForm_ok {c : Config.Coding} {f : Form} {operands : List Byte} (hlen : f.length = operands.length + 1)
    (hf : f.isRRR = false) (r : List Byte) : ∃ i, decodeForm c f (operands ++ r) = .ok (i, r) := by
  cases f with
  | i | lr =>
    obtain rfl := List.length_eq_zero_iff.mp (Nat.succ.inj hlen).symm
    exact ⟨_, rfl⟩
  | lb | xo | qr =>
    obtain ⟨a, rfl⟩ := List.length_eq_one_iff.mp (Nat.succ.inj hlen).symm
    exact ⟨_, rfl⟩
  | lh | rd | lbd | xro | lio =>
    obtain ⟨a, b, rfl⟩ := List.length_eq_two.mp (Nat.succ.inj hlen).symm
    exact ⟨_, rfl⟩
  | rrr => cases hf
  | lw =>
    match operands, hlen with
    | [_, _, _, _], _ => exact ⟨_, rfl⟩

/-- RRR operands are refused for the reserved Rc code and else read (R81, R93). -/
theorem decode_rrrOpcode {op : Byte} (hop : op ∈ rrrOpcodes) (x y : Byte) (r : List Byte) :
    if x.getLsbD 6 = true ∧ y.extractLsb' 4 4 = 15 then decode (op :: x :: y :: r) = .error .reservedRcCode
    else ∃ i, decode (op :: x :: y :: r) = .ok (i, r) := by
  obtain ⟨m, g, rfl, hform⟩ := exists_mnemonic_of_rrrOpcode hop
  split
  · next hreserved =>
    have hnone := (rrrOf_eq_none_iff x y).mpr hreserved
    exact decodeWith_of_decodeForm_error (mnemonicOf_refOpc m) (hform ▸ decodeForm_rrr_of_none hnone r)
  · next hassigned =>
    obtain ⟨o, ho⟩ := Option.ne_none_iff_exists'.mp (mt (rrrOf_eq_none_iff x y).mp hassigned)
    have hshift : ∀ x ∈ rrrOpcodes, x ∉ shiftOpcodes := by decide
    exact ⟨g o, decode_of_not_shift (hshift _ hop) (hform ▸ decodeForm_rrr_of_some ho r)⟩

/-- The four shifts are refused for a descriptor out of range and else read (R130, R93). -/
theorem decode_shiftOpcode {op : Byte} (hop : op ∈ shiftOpcodes) (a b : Byte) (r : List Byte) :
    if (a ++ b : Half).extractLsb' 13 3 = 0 ∧ ((a ++ b : Half).extractLsb' 6 6).toNat ≤ 32 ∧ (b.extractLsb' 0 6).toNat ≤ 32
    then ∃ i, decode (op :: a :: b :: r) = .ok (i, r)
    else decode (op :: a :: b :: r) = .error .fieldDescriptor := by
  obtain ⟨m, g, rfl, hform, hwf⟩ := exists_mnemonic_of_shiftOpcode hop
  rw [decode_shift hform hwf]
  split
  · next h => exact ⟨_, if_pos ((descriptorOk_append_iff a b).mpr h)⟩
  · next h => exact if_neg (mt (descriptorOk_append_iff a b).mp h)

/-- Every other assigned opcode takes whatever operand bytes follow it (R93). -/
theorem exists_decode_ok {op : Byte} {operands : List Byte} (hlen : opLength op = some (operands.length + 1))
    (hrrr : op ∉ rrrOpcodes) (hshift : op ∉ shiftOpcodes) (r : List Byte) : ∃ i, decode (op :: operands ++ r) = .ok (i, r) := by
  obtain ⟨m, hm, hform⟩ := opLength_eq_some_iff.mp hlen
  obtain rfl := mnemonicOf_some hm
  have hnot : m.form.isRRR = false := Bool.eq_false_iff.mpr (mt (form_isRRR_iff m).mp hrrr)
  obtain ⟨i, hi⟩ := exists_decodeForm_ok hform hnot r
  exact ⟨i, decode_of_not_shift hshift hi⟩

/-- An opcode byte has no length exactly where REF_OPC gives it to no mnemonic (R92). -/
theorem opLength_eq_none_iff {op : Byte} : opLength op = none ↔ mnemonicOf Config.refOpc op = none := Option.map_eq_none_iff

/-- The byte values that REF_OPC leaves out, found by asking for each of the 256 (R90). -/
theorem mnemonicOf_refOpc_eq_none_iff (op : Byte) :
    mnemonicOf Config.refOpc op = none ↔
      op.toNat ∈ List.range' 0x00 16 ++ [0x27, 0x2E, 0x2F] ++ List.range' 0x37 9 ++ List.range' 0x4C 4 ++ [0x57, 0x5D] ++
        List.range' 0x88 8 ++ List.range' 0xA6 10 ++ List.range' 0xC5 11 ++ List.range' 0xE3 5 ++ [0xEE, 0xEF] ++ List.range' 0xF5 11 := by
  revert op; decide +kernel

theorem Form.length_cases (f : Form) : f.length = 1 ∨ f.length = 2 ∨ f.length = 3 ∨ f.length = 5 := by
  cases f <;> simp [Form.length]

end Sys2Proof
end

section
/-! The statements of spec/30_encoding.md. -/

namespace Sys2Proof

/-- Settles O5: REF_OPC is injective, and under an injective opcode map decoding undoes encoding. -/
theorem decodeOfEncodeIsTheInstruction : Obligations.DecodeOfEncodeIsTheInstruction :=
  fun _ rest hi => decodeWith_encodeWith Config.refOpc_injective Config.lioSplit hi rest

/-- Settles O6: the opcode byte read is the mnemonic's, and the operand bytes read are those the encoder writes. -/
theorem encodeOfDecodeIsTheBytes : Obligations.EncodeOfDecodeIsTheBytes := by
  intro bs rest i h
  obtain ⟨op, r, m, rfl, hm, hform, hwf⟩ := decode_ok h
  obtain ⟨rfl, rfl⟩ := decodeForm_form_ok_iff.mp hform
  obtain rfl := mnemonicOf_some hm
  exact ⟨hwf, rfl⟩

/-- Settles O60: O5's argument uses of the opcode map its injectivity alone. -/
theorem everyInjectiveOpcodeMapDecodesWhatItEncodes : Obligations.EveryInjectiveOpcodeMapDecodesWhatItEncodes :=
  ⟨Config.refOpc_injective, fun _ split hopc =>
    ⟨fun _ rest hi => decodeWith_encodeWith hopc split hi rest,
      fun _ rest hop => decodeWith_of_mnemonicOf_none (mnemonicOf_eq_none hop) rest⟩⟩

/-- Settles O7: a byte has the length of its mnemonic's format, or no mnemonic and is refused for that. -/
theorem unassignedOpcodesAreRefused : Obligations.UnassignedOpcodesAreRefused := by
  refine fun op => ⟨opLength_eq_none_iff.trans (mnemonicOf_refOpc_eq_none_iff op), fun n hn => ?_, fun hnone rest => ?_⟩
  · obtain ⟨m, -, rfl⟩ := opLength_eq_some_iff.mp hn
    exact m.form.length_cases
  · exact decodeWith_of_mnemonicOf_none (opLength_eq_none_iff.mp hnone) rest

/-- Settles O8: a reserved Rc code for RRR, a descriptor out of range for the shifts, and no other refusal. -/
theorem reservedOperandCodesAreRefused : Obligations.ReservedOperandCodesAreRefused := by
  refine ⟨fun op hop => decode_rrrOpcode hop, fun op hop => decode_shiftOpcode hop, fun a b r => ?_, fun op operands r hlen hop => ?_⟩
  · exact decode_of_not_shift (m := .fsdb) (by decide) rfl
  · exact exists_decode_ok hlen (fun h => hop (List.mem_append_left shiftOpcodes h))
      (fun h => hop (List.mem_append_right rrrOpcodes h)) r

end Sys2Proof
end

section
/-! Sums and differences (R100 to R102): the exact integers and their words, checked arithmetic and its trap, and arithmetic
through Carry. -/

namespace Sys2Proof.Machine

/-! The exact results (R101, R102) -/

theorem carryInt_eq (c : Bool) : carryInt c = c.toNat := by cases c <;> rfl

theorem signedSum_eq (x y : Word) (c : Bool) : signedSum x y c = x.toInt + y.toInt + c.toNat := by
  rw [signedSum, carryInt_eq]

theorem signedDiff_eq (x y : Word) (c : Bool) : signedDiff x y c = x.toInt - y.toInt - c.toNat := by
  rw [signedDiff, carryInt_eq]

/-- A literal narrower than a word is a non-negative addend (R8, R103, R104). -/
theorem toInt_setWidth_literal {w : Nat} (hw : w < 32) (a : BitVec w) : (a.setWidth 32).toInt = a.toNat := by
  rw [← BitVec.setWidth'_eq hw.le, BitVec.toInt_setWidth'_of_lt hw]

theorem signedSum_literal {w : Nat} (hw : w < 32) (x : Word) (a : BitVec w) (c : Bool) :
    signedSum x (a.setWidth 32) c = x.toInt + a.toNat + c.toNat := by
  rw [signedSum_eq, toInt_setWidth_literal hw]

theorem signedDiff_literal {w : Nat} (hw : w < 32) (x : Word) (a : BitVec w) (c : Bool) :
    signedDiff x (a.setWidth 32) c = x.toInt - a.toNat - c.toNat := by
  rw [signedDiff_eq, toInt_setWidth_literal hw]

theorem wrap_unsignedSum (x y : Word) (c : Bool) : wrap (unsignedSum x y c) = x + y + BitVec.ofNat 32 c.toNat := by
  simp [wrap, unsignedSum, carryInt_eq, BitVec.ofInt_add]

theorem wrap_unsignedDiff (x y : Word) (c : Bool) : wrap (unsignedDiff x y c) = x - y - BitVec.ofNat 32 c.toNat := by
  simp [wrap, unsignedDiff, carryInt_eq, Int.sub_eq_add_neg, BitVec.sub_eq_add_neg, BitVec.ofInt_add, BitVec.ofInt_neg]

theorem carryOut_eq (x y : Word) (c : Bool) : carryOut x y c = decide (2 ^ 32 ≤ x.toNat + y.toNat + c.toNat) := by
  rw [carryOut, unsignedSum, carryInt_eq, decide_eq_decide]
  omega

theorem borrowOut_eq (x y : Word) (c : Bool) : borrowOut x y c = decide (x.toNat < y.toNat + c.toNat) := by
  rw [borrowOut, unsignedDiff, carryInt_eq, decide_eq_decide]
  omega

/-! Subtraction by the adder: `x + NOT y + (1 - c)` (R102) -/

/-- What the adder sums for RUSUB, exactly. -/
def adderSum (x y : Word) (c : Bool) : Nat := x.toNat + (~~~y).toNat + (1 - c.toNat)

/-- The adder's sum is the exact difference and 2^32 more. -/
theorem adderSum_eq (x y : Word) (c : Bool) : (adderSum x y c : Int) = unsignedDiff x y c + 2 ^ 32 := by
  have := y.isLt
  have := c.toNat_le
  rw [adderSum, unsignedDiff, carryInt_eq, BitVec.toNat_not]
  omega

theorem wrap_unsignedDiff_adder (x y : Word) (c : Bool) : wrap (unsignedDiff x y c) = BitVec.ofNat 32 (adderSum x y c) := by
  rw [← BitVec.ofInt_natCast, adderSum_eq, BitVec.ofInt_add, wrap]
  simp

theorem borrowOut_adder (x y : Word) (c : Bool) : borrowOut x y c = !(adderSum x y c).testBit 32 := by
  have hsum := adderSum_eq x y c
  have hlt : unsignedDiff x y c < 2 ^ 32 := by
    have := x.isLt
    rw [unsignedDiff, carryInt_eq]
    omega
  rw [borrowOut, Nat.testBit_eq_decide_div_mod_eq, ← decide_not, decide_eq_decide]
  omega

/-! Signed overflow of two words (R101, R119) -/

theorem overflowKind_iff {t : Int} : Config.overflowKind t = true ↔ t < -2 ^ 31 ∨ 2 ^ 31 - 1 < t := by
  simp [Config.overflowKind]

theorem overflowKind_sum (x y : Word) :
    Config.overflowKind (x.toInt + y.toInt) = true ↔ x.msb = y.msb ∧ (x + y).msb ≠ y.msb := by
  have h : Config.overflowKind (x.toInt + y.toInt) = x.saddOverflow y := by
    rw [Bool.eq_iff_iff, overflowKind_iff, BitVec.saddOverflow, Bool.or_eq_true, decide_eq_true_iff, decide_eq_true_iff]
    omega
  rw [h, BitVec.saddOverflow_eq]
  cases x.msb <;> cases y.msb <;> simp

theorem overflowKind_diff (x y : Word) :
    Config.overflowKind (x.toInt - y.toInt) = true ↔ x.msb ≠ y.msb ∧ (x - y).msb = y.msb := by
  have h : Config.overflowKind (x.toInt - y.toInt) = x.ssubOverflow y := by
    rw [Bool.eq_iff_iff, overflowKind_iff, BitVec.ssubOverflow, Bool.or_eq_true, decide_eq_true_iff, decide_eq_true_iff]
    omega
  rw [h, BitVec.ssubOverflow_eq]
  cases x.msb <;> cases y.msb <;> simp

/-! Checked adds and subtracts (R100, R101) -/

section
variable {s : State} {r t : Int} {k : Word → State}

theorem State.checked_of_inRange (hr : r = t) (hlo : -2 ^ 31 ≤ t) (hhi : t ≤ 2 ^ 31 - 1) :
    s.checked r k = .next ((k (BitVec.ofInt 32 t)).setCarry false) := by
  rw [State.checked, hr, (overflowKind_eq_false_iff t).mpr ⟨hlo, hhi⟩, State.trapIf_false, wrap]

theorem State.trapIf_of_overflow {kind : TrapKind} {done : State} (hr : r = t) (h : t < -2 ^ 31 ∨ 2 ^ 31 - 1 < t) :
    s.trapIf kind (Config.overflowKind r) done =
      if s.ifu.length < Config.ifuStackDepth then .next (s.trapEntry kind) else .fault .ifuOverflow := by
  rw [hr, overflowKind_iff.mpr h]
  split
  · next hroom => exact State.trapIf_true _ _ ((ifuFull_eq_false_iff _).mpr hroom)
  · next hfull => exact State.trapIf_full _ _ ((ifuFull_iff _).mpr (Nat.le_of_not_lt hfull))

/-- With room on the IFU stack a checked instruction enters the trap exactly on overflow: its own end pushes no IFU record. -/
theorem State.checked_eq_trapEntry_iff (hk : ∀ v, (k v).ifu = s.ifu) (hroom : s.ifu.length < Config.ifuStackDepth) :
    s.checked t k = .next (s.trapEntry .overflow) ↔ Config.overflowKind t = true := by
  constructor
  · intro h
    obtain ⟨-, heq⟩ | ⟨hov, -, -⟩ := State.checked_next h
    · have hifu := congrArg (List.length ∘ State.ifu) heq
      simp [hk] at hifu
    · exact hov
  · intro h
    rw [State.checked, h]
    exact State.trapIf_true _ _ ((ifuFull_eq_false_iff _).mpr hroom)

theorem State.checked_replaceTop {len : Word} (hr : r = t) (hlo : -2 ^ 31 ≤ t) (hhi : t ≤ 2 ^ 31 - 1) :
    s.checked r (fun v => s.replaceTop v len) =
      .next { s.setStack s.sp (BitVec.ofInt 32 t) with carry := false, pc := s.pc + len } := by
  rw [State.checked_of_inRange hr hlo hhi, State.replaceTop, State.advance_zero]
  rfl

theorem State.checked_combine {len : Word} (hr : r = t) (hlo : -2 ^ 31 ≤ t) (hhi : t ≤ 2 ^ 31 - 1) :
    s.checked r (fun v => s.combine v len) =
      .next { s.setStack (s.sp - 1) (BitVec.ofInt 32 t) with carry := false, sp := s.sp - 1, pc := s.pc + len } := by
  rw [State.checked_of_inRange hr hlo hhi, State.combine, State.advance_neg]
  rfl

theorem State.checked_finishRRR {o : RRR} (hr : r = t) (hlo : -2 ^ 31 ≤ t) (hhi : t ≤ 2 ^ 31 - 1) :
    s.checked r (fun v => s.finishRRR o v) =
      .next { s.write o.file o.rc (BitVec.ofInt 32 t) with
        carry := false, sp := s.sp + (srcDs o.ra + srcDs o.rb + dstDs o.rc), pc := s.pc + 3 } := by
  rw [State.checked_of_inRange hr hlo hhi, State.finishRRR_eq]
  rfl

end

/-! RUADD and RUSUB (R109, R117) -/

theorem exec_ruadd (o : RRR) (s : State) :
    exec (.ruadd o) s = .next ((s.finishRRR o (wrap (unsignedSum (s.ra o) (s.rb o) s.carry))).setCarry
      (carryOut (s.ra o) (s.rb o) s.carry)) := rfl

theorem exec_rusub (o : RRR) (s : State) :
    exec (.rusub o) s = .next ((s.finishRRR o (wrap (unsignedDiff (s.ra o) (s.rb o) s.carry))).setCarry
      (borrowOut (s.ra o) (s.rb o) s.carry)) := rfl

/-! Two instructions through Carry (R119) -/

theorem State.localIx_inj (s : State) {n m : BitVec 4} : s.localIx n = s.localIx m ↔ n = m := by
  simp only [State.localIx, BitVec.add_right_inj]
  exact ⟨fun h => by simpa [Config.stackBits] using congrArg (BitVec.setWidth 4) h, fun h => by rw [h]⟩

theorem State.regAt_setReg (s : State) (f : RegFile) (n m : BitVec 4) (v : Word) :
    (s.setReg f n v).regAt f m = if n = m then v else s.regAt f m := by
  cases f with
  | locals =>
    simp only [← s.localIx_inj]
    exact s.stackAt_setStack (s.localIx n) (s.localIx m) v
  | aux => exact s.auxAt_setAux n m v

/-- The end of a register instruction that writes Carry, on registers of one file. -/
theorem State.regAt_finishRRR_setCarry (s : State) (f : RegFile) (a b d n : BitVec 4) (v : Word) (c : Bool) :
    ((s.finishRRR ⟨f, .reg a, .reg b, .reg d⟩ v).setCarry c).regAt f n = if d = n then v else s.regAt f n := by
  rw [← State.regAt_setReg]
  cases f <;> rfl

/-- An RRR instruction that writes the word of `exact` and the Carry `flag`, run on the low words and then on the high
words: the high result is that of the unchanged high words and the Carry of the low ones. -/
theorem exec_lo_hi {mk : RRR → Instr} {exact : Word → Word → Bool → Int} {flag : Word → Word → Bool → Bool}
    (hexec : ∀ o s, exec (mk o) s = .next ((s.finishRRR o (wrap (exact (s.ra o) (s.rb o) s.carry))).setCarry
      (flag (s.ra o) (s.rb o) s.carry)))
    (s : State) (f : RegFile) {a₀ a₁ b₀ b₁ d₀ d₁ : BitVec 4} (ha : d₀ ≠ a₁) (hb : d₀ ≠ b₁) (hd : d₀ ≠ d₁) :
    let c := flag (s.regAt f a₀) (s.regAt f b₀) s.carry
    ∃ t u, exec (mk ⟨f, .reg a₀, .reg b₀, .reg d₀⟩) s = .next t ∧ exec (mk ⟨f, .reg a₁, .reg b₁, .reg d₁⟩) t = .next u ∧
      u.regAt f d₀ = wrap (exact (s.regAt f a₀) (s.regAt f b₀) s.carry) ∧
      u.regAt f d₁ = wrap (exact (s.regAt f a₁) (s.regAt f b₁) c) ∧
      u.carry = flag (s.regAt f a₁) (s.regAt f b₁) c := by
  refine ⟨_, _, hexec _ s, hexec _ _, ?_, ?_, ?_⟩ <;>
    simp [State.regAt_finishRRR_setCarry, State.ra, State.rb, State.read, ha, hb, hd.symm]

theorem toNat_append_words (x y : Word) : (x ++ y).toNat = x.toNat * 2 ^ 32 + y.toNat := by
  rw [BitVec.toNat_append, ← Nat.shiftLeft_add_eq_or_of_lt y.isLt, Nat.shiftLeft_eq]

/-- The full adder: the word and the Carry are the exact sum. -/
theorem wrap_add_carryOut (x y : Word) (c : Bool) :
    (wrap (unsignedSum x y c)).toNat + (carryOut x y c).toNat * 2 ^ 32 = x.toNat + y.toNat + c.toNat := by
  have := c.toNat_le
  rw [wrap, unsignedSum, carryInt_eq, BitVec.toNat_ofInt, carryOut_eq]
  by_cases h : 2 ^ 32 ≤ x.toNat + y.toNat + c.toNat
  · rw [decide_eq_true h, Bool.toNat_true]
    omega
  · rw [decide_eq_false h, Bool.toNat_false]
    omega

/-- The full subtracter: the word less the borrow is the exact difference. -/
theorem wrap_add_borrowOut (x y : Word) (c : Bool) :
    (wrap (unsignedDiff x y c)).toNat + y.toNat + c.toNat = x.toNat + (borrowOut x y c).toNat * 2 ^ 32 := by
  have := c.toNat_le
  rw [wrap, unsignedDiff, carryInt_eq, BitVec.toNat_ofInt, borrowOut_eq]
  by_cases h : x.toNat < y.toNat + c.toNat
  · rw [decide_eq_true h, Bool.toNat_true]
    omega
  · rw [decide_eq_false h, Bool.toNat_false]
    omega

section
variable (a₁ a₀ b₁ b₀ : Word)

theorem append_wrap_unsignedSum :
    wrap (unsignedSum a₁ b₁ (carryOut a₀ b₀ false)) ++ wrap (unsignedSum a₀ b₀ false) = (a₁ ++ a₀) + (b₁ ++ b₀) := by
  have lo := wrap_add_carryOut a₀ b₀ false
  have hi := wrap_add_carryOut a₁ b₁ (carryOut a₀ b₀ false)
  apply BitVec.eq_of_toNat_eq
  rw [BitVec.toNat_add, toNat_append_words, toNat_append_words, toNat_append_words]
  rw [Bool.toNat_false] at lo
  omega

theorem carryOut_carryOut :
    carryOut a₁ b₁ (carryOut a₀ b₀ false) = decide (2 ^ 64 ≤ (a₁ ++ a₀).toNat + (b₁ ++ b₀).toNat) := by
  have lo := wrap_add_carryOut a₀ b₀ false
  rw [carryOut_eq a₁, decide_eq_decide, toNat_append_words, toNat_append_words]
  rw [Bool.toNat_false] at lo
  omega

theorem append_wrap_unsignedDiff :
    wrap (unsignedDiff a₁ b₁ (borrowOut a₀ b₀ false)) ++ wrap (unsignedDiff a₀ b₀ false) = (a₁ ++ a₀) - (b₁ ++ b₀) := by
  have lo := wrap_add_borrowOut a₀ b₀ false
  have hi := wrap_add_borrowOut a₁ b₁ (borrowOut a₀ b₀ false)
  apply BitVec.eq_of_toNat_eq
  rw [BitVec.toNat_sub, toNat_append_words, toNat_append_words, toNat_append_words]
  rw [Bool.toNat_false] at lo
  omega

theorem borrowOut_borrowOut :
    borrowOut a₁ b₁ (borrowOut a₀ b₀ false) = decide ((a₁ ++ a₀).toNat < (b₁ ++ b₀).toNat) := by
  have lo := wrap_add_borrowOut a₀ b₀ false
  rw [borrowOut_eq a₁, decide_eq_decide, toNat_append_words, toNat_append_words]
  rw [Bool.toNat_false] at lo
  omega

end

end Sys2Proof.Machine
end

section
/-! The statements of spec/40_add_subtract.md, and of spec/30_encoding.md on sample words. -/

namespace Sys2Proof.Machine

/-! Unsigned arithmetic and Carry -/

/-- Settles O17: the word and the Carry of each, the exact sum or difference being read as words. -/
theorem unsignedAddAndSubtractCarry : Obligations.UnsignedAddAndSubtractCarry := by
  refine ⟨fun o s => ?ruadd, fun o s => ?rusub⟩
  case ruadd =>
    rw [exec_ruadd, wrap_unsignedSum, carryOut_eq, State.finishRRR_eq]
    rfl
  case rusub =>
    rw [exec_rusub, wrap_unsignedDiff, borrowOut_eq, State.finishRRR_eq]
    rfl

/-- Settles O18: the adder's sum is the exact difference plus 2^32, so its bit 32 is set where there is no borrow. -/
theorem borrowIsTheComplementOfTheAddersCarryOut : Obligations.BorrowIsTheComplementOfTheAddersCarryOut := by
  intro o s t h
  rw [exec_rusub, wrap_unsignedDiff_adder] at h
  cases h
  exact ⟨borrowOut_adder (s.ra o) (s.rb o) s.carry, rfl⟩

/-- Settles O19: the Carry of the low words is the third addend of the high words, and the full adder's equations add up. -/
theorem twoWordAddAndSubtractThroughCarry : Obligations.TwoWordAddAndSubtractThroughCarry := by
  intro s f a₀ a₁ b₀ b₁ d₀ d₁ hc ha hb hd
  constructor
  · obtain ⟨t, u, hlo, hhi, h₀, h₁, hcarry⟩ :=
      exec_lo_hi (exact := unsignedSum) (a₀ := a₀) (b₀ := b₀) exec_ruadd s f ha hb hd
    rw [hc] at h₀ h₁ hcarry
    exact ⟨t, u, hlo, hhi, by rw [h₀, h₁, append_wrap_unsignedSum], by rw [hcarry, carryOut_carryOut]⟩
  · obtain ⟨t, u, hlo, hhi, h₀, h₁, hcarry⟩ :=
      exec_lo_hi (exact := unsignedDiff) (a₀ := a₀) (b₀ := b₀) exec_rusub s f ha hb hd
    rw [hc] at h₀ h₁ hcarry
    exact ⟨t, u, hlo, hhi, by rw [h₀, h₁, append_wrap_unsignedDiff], by rw [hcarry, borrowOut_borrowOut]⟩

/-! Signed overflow -/

/-- Settles O20: the trap is entered exactly on overflow, which for words is the change of sign. -/
theorem addOverflowIsASignChange : Obligations.AddOverflowIsASignChange := by
  intro s hc hroom
  have hsum : signedSum s.second s.top s.carry = s.second.toInt + s.top.toInt := by simp [signedSum_eq, hc]
  have hdiff : signedDiff s.second s.top s.carry = s.second.toInt - s.top.toInt := by simp [signedDiff_eq, hc]
  constructor
  · rw [← overflowKind_sum, ← hsum]
    exact State.checked_eq_trapEntry_iff (k := (s.combine · 1)) (fun _ => rfl) hroom
  · rw [← overflowKind_diff, ← hdiff]
    exact State.checked_eq_trapEntry_iff (k := (s.combine · 1)) (fun _ => rfl) hroom

/-! Sample words -/

theorem decode_of_encode {i : Instr} {bs : List Byte} (hbs : encode i = bs) (hi : wellFormed i = true) : decode bs = .ok (i, []) := by
  rw [← hbs, ← List.append_nil (encode i)]
  exact decodeOfEncodeIsTheInstruction i [] hi

/-- Settles O9: the bytes of each are what the encoder writes. -/
theorem sampleWordsDecodeAsTheSpecWritesThem : Obligations.SampleWordsDecodeAsTheSpecWritesThem :=
  ⟨decode_of_encode rfl rfl, decode_of_encode rfl rfl, decode_of_encode rfl rfl, decode_of_encode rfl rfl, decode_of_encode rfl rfl,
    decode_of_encode rfl rfl, decode_of_encode rfl rfl, decode_of_encode rfl rfl, decode_of_encode rfl rfl⟩

/-! Checked arithmetic -/

/-- Settles O14: each is a checked sum or difference of [S] and its literal that ends by replacing [S]. -/
theorem literalAddsAndSubtractsInRange : Obligations.LiteralAddsAndSubtractsInRange := by
  refine ⟨fun a s hlo hhi => ?addb, fun ab s hlo hhi => ?adddb, fun w s hlo hhi => ?addqb,
    fun a s hlo hhi => ?subb, fun ab s hlo hhi => ?subdb, fun w s hlo hhi => ?subqb⟩
  case addb | adddb => exact State.checked_replaceTop (signedSum_literal (by decide) _ _ _) hlo hhi
  case subb | subdb => exact State.checked_replaceTop (signedDiff_literal (by decide) _ _ _) hlo hhi
  case addqb => exact State.checked_replaceTop (signedSum_eq _ _ _) hlo hhi
  case subqb => exact State.checked_replaceTop (signedDiff_eq _ _ _) hlo hhi

/-- Settles O15: each is a checked sum or difference of its operands that ends in its own destination. -/
theorem registerAddsAndSubtractsInRange : Obligations.RegisterAddsAndSubtractsInRange := by
  refine ⟨fun s hlo hhi => ?add, fun s hlo hhi => ?sub, fun o s hlo hhi => ?radd, fun o s hlo hhi => ?rsub,
    fun o s hlo hhi => ?qadd, fun o s hlo hhi => ?qsub⟩
  case add => exact State.checked_combine (signedSum_eq _ _ _) hlo hhi
  case sub => exact State.checked_combine (signedDiff_eq _ _ _) hlo hhi
  case radd => exact State.checked_finishRRR (signedSum_eq _ _ _) hlo hhi
  case rsub => exact State.checked_finishRRR (signedDiff_eq _ _ _) hlo hhi
  case qadd => exact State.checked_of_inRange (signedSum_eq _ _ _) hlo hhi
  case qsub => exact State.checked_of_inRange (signedDiff_eq _ _ _) hlo hhi

/-- Settles O16: all twelve are checked, and the exact result is that of the literal or of the operands. -/
theorem checkedArithmeticTrapsOnOverflow : Obligations.CheckedArithmeticTrapsOnOverflow := by
  refine ⟨fun a s h => ?addb, fun ab s h => ?adddb, fun w s h => ?addqb, fun s h => ?add, fun o s h => ?radd,
    fun o s h => ?qadd, fun a s h => ?subb, fun ab s h => ?subdb, fun w s h => ?subqb, fun s h => ?sub,
    fun o s h => ?rsub, fun o s h => ?qsub⟩
  case addb | adddb => exact State.trapIf_of_overflow (signedSum_literal (by decide) _ _ _) h
  case subb | subdb => exact State.trapIf_of_overflow (signedDiff_literal (by decide) _ _ _) h
  case addqb | add | radd | qadd => exact State.trapIf_of_overflow (signedSum_eq _ _ _) h
  case subqb | sub | rsub | qsub => exact State.trapIf_of_overflow (signedDiff_eq _ _ _) h

/-! Plain arithmetic -/

/-- Settles O21: each is the end of an RRR instruction with the wrapped result. -/
theorem plainAddAndSubtractWrap : Obligations.PlainAddAndSubtractWrap :=
  ⟨fun o s => congrArg _ (s.finishRRR_eq o _), fun o s => congrArg _ (s.finishRRR_eq o _)⟩

end Sys2Proof.Machine
end

section
/-! The field unit (R130, R131, R138): which double bytes are descriptors, what FU_OPERATE is bit by bit, and the ends of the
instructions that use them. -/

namespace Sys2Proof.Machine

/-! Descriptors (R130) -/

theorem extractLsb'_high_eq_zero_iff {n m : Nat} (x : BitVec (n + m)) : x.extractLsb' n m = 0 ↔ x.toNat < 2 ^ n := by
  have hlt : x.toNat / 2 ^ n < 2 ^ m := Nat.div_lt_of_lt_mul (Nat.pow_add 2 n m ▸ x.isLt)
  rw [← BitVec.toNat_inj, BitVec.extractLsb'_toNat, Nat.shiftRight_eq_div_pow, Nat.mod_eq_of_lt hlt]
  exact Nat.div_eq_zero_iff_lt (Nat.two_pow_pos n)

theorem eq_getLsbD_iff {n : Nat} (b : Bool) (x : BitVec n) (i : Nat) : b = x.getLsbD i ↔ b.toNat = x.toNat / 2 ^ i % 2 := by
  rw [← Nat.toNat_testBit, BitVec.testBit_toNat]
  cases b <;> cases x.getLsbD i <;> decide

theorem fieldDesc_eq_some_iff (ab : Half) (fd : FieldDesc) :
    fieldDesc ab = some fd ↔
      ab.toNat < 2 ^ 13 ∧ fd.width ≤ 32 ∧ fd.shift ≤ 32 ∧
        fd.insert = ab.getLsbD 12 ∧ fd.width = (ab.extractLsb' 6 6).toNat ∧ fd.shift = (ab.extractLsb' 0 6).toNat := by
  obtain ⟨insert, width, shift⟩ := fd
  simp only [fieldDesc, extractLsb'_high_eq_zero_iff, Option.ite_none_right_eq_some, Option.some.injEq, FieldDesc.mk.injEq]
  constructor
  · rintro ⟨⟨hpad, hw, hs⟩, rfl, rfl, rfl⟩
    exact ⟨hpad, hw, hs, rfl, rfl, rfl⟩
  · rintro ⟨hpad, hw, hs, rfl, rfl, rfl⟩
    exact ⟨⟨hpad, hw, hs⟩, rfl, rfl, rfl⟩

/-- The pads, insert, width and shift are the digits of the double byte at the weights 8192, 4096, 64 and 1. -/
theorem fieldDesc_eq_some_iff_toNat (ab : Half) (fd : FieldDesc) :
    fieldDesc ab = some fd ↔ fd.width ≤ 32 ∧ fd.shift ≤ 32 ∧ ab.toNat = 4096 * fd.insert.toNat + 64 * fd.width + fd.shift := by
  have hle := fd.insert.toNat_le
  rw [fieldDesc_eq_some_iff, eq_getLsbD_iff, BitVec.extractLsb'_toNat, BitVec.extractLsb'_toNat, Nat.shiftRight_eq_div_pow,
    Nat.shiftRight_eq_div_pow]
  omega

/-! FU_OPERATE bit by bit (R131) -/

/-- The high word of the double word `left ++ right` shifted left: what FU_OPERATE masks. -/
def doubleShift (left right : Word) (k : Nat) : Word := ((left ++ right : BitVec 64) <<< k).extractLsb' 32 32

theorem fuOperate_extract (x y : Word) (w k : Nat) :
    Config.fuOperate x y ⟨false, w, k⟩ = doubleShift x y k &&& Config.lowOnes w := rfl

theorem fuOperate_insert (x y : Word) (w k : Nat) :
    Config.fuOperate x y ⟨true, w, k⟩ =
      (doubleShift x y k &&& (Config.lowOnes w <<< k)) ||| (y &&& ~~~(Config.lowOnes w <<< k)) := rfl

theorem getLsbD_lowOnes {i : Nat} (hi : i < 32) (w : Nat) : (Config.lowOnes w).getLsbD i = decide (i < w) := by
  rw [Config.lowOnes, BitVec.getLsbD_ofNat, Nat.testBit_two_pow_sub_one, decide_eq_true hi, Bool.true_and]

/-- A shift by at most a word moves `right` in below `left`. -/
theorem getLsbD_doubleShift (x y : Word) {k i : Nat} (hk : k ≤ 32) (hi : i < 32) :
    (doubleShift x y k).getLsbD i = if i < k then y.getLsbD (32 + i - k) else x.getLsbD (i - k) := by
  have hin : 32 + i < 32 + 32 := by omega
  have hge : ¬ 32 + i < k := by omega
  have hlow : 32 + i - k < 32 ↔ i < k := by omega
  have hsub : 32 + i - k - 32 = i - k := by omega
  rw [doubleShift, BitVec.getLsbD_extractLsb', BitVec.getLsbD_shiftLeft, BitVec.getLsbD_append]
  simp only [hi, hin, hge, hlow, hsub, decide_true, decide_false, Bool.not_false, Bool.true_and]

theorem toNat_doubleShift (x y : Word) (k : Nat) :
    (doubleShift x y k).toNat = (x.toNat * 2 ^ 32 + y.toNat) * 2 ^ k / 2 ^ 32 % 2 ^ 32 := by
  rw [doubleShift, BitVec.extractLsb'_toNat, BitVec.toNat_shiftLeft, toNat_append_words, Nat.shiftLeft_eq,
    Nat.shiftRight_eq_div_pow]
  omega

theorem getLsbD_fuOperate_extract (x y : Word) (w : Nat) {k i : Nat} (hk : k ≤ 32) (hi : i < 32) :
    (Config.fuOperate x y ⟨false, w, k⟩).getLsbD i =
      (decide (i < w) && if i < k then y.getLsbD (32 + i - k) else x.getLsbD (i - k)) := by
  rw [fuOperate_extract, BitVec.getLsbD_and, getLsbD_doubleShift x y hk hi, getLsbD_lowOnes hi, Bool.and_comm]

/-- Width 32 masks nothing. -/
theorem fuOperate_full (x y : Word) (k : Nat) : Config.fuOperate x y ⟨false, 32, k⟩ = doubleShift x y k :=
  BitVec.and_allOnes

theorem getLsbD_fuOperate_insert (x y : Word) (w : Nat) {k i : Nat} (hk : k ≤ 32) (hi : i < 32) :
    (Config.fuOperate x y ⟨true, w, k⟩).getLsbD i = if k ≤ i ∧ i < k + w then x.getLsbD (i - k) else y.getLsbD i := by
  have hmask : (Config.lowOnes w <<< k).getLsbD i = decide (k ≤ i ∧ i < k + w) := by
    rw [BitVec.getLsbD_shiftLeft, getLsbD_lowOnes (by omega), Bool.eq_iff_iff]
    simp only [Bool.and_eq_true, Bool.not_eq_true', decide_eq_true_iff, decide_eq_false_iff_not]
    omega
  rw [fuOperate_insert, BitVec.getLsbD_or, BitVec.getLsbD_and, BitVec.getLsbD_and, BitVec.getLsbD_not, hmask,
    getLsbD_doubleShift x y hk hi]
  by_cases hfield : k ≤ i ∧ i < k + w
  · simp [hfield, Nat.not_lt.mpr hfield.1]
  · simp [hfield, hi]

/-! Shifts and rotates (R138) -/

theorem fuOperate_shiftLeft (x : Word) {k : Nat} (hk : k ≤ 32) : Config.fuOperate x 0 ⟨false, 32, k⟩ = x <<< k := by
  refine BitVec.eq_of_getLsbD_eq fun i hi => ?_
  rw [fuOperate_full, getLsbD_doubleShift x 0 hk hi, BitVec.getLsbD_shiftLeft]
  by_cases h : i < k <;> simp [h, hi]

/-- Rotating left by 32 - k brings bit i + k to bit i; the width cuts off what came round. -/
theorem fuOperate_shiftRight (x : Word) {k : Nat} (hk : k ≤ 32) :
    Config.fuOperate x x ⟨false, 32 - k, 32 - k⟩ = x >>> k := by
  refine BitVec.eq_of_getLsbD_eq fun i hi => ?_
  rw [getLsbD_fuOperate_extract x x _ (by omega) hi, BitVec.getLsbD_ushiftRight]
  by_cases h : i < 32 - k
  · have hbit : 32 + i - (32 - k) = k + i := by omega
    simp [h, hbit]
  · simp [h, BitVec.getLsbD_of_ge x (k + i) (by omega)]

theorem doubleShift_self (x : Word) {k : Nat} (hk : k ≤ 32) : doubleShift x x k = x.rotateLeft k := by
  refine BitVec.eq_of_getLsbD_eq fun i hi => ?_
  rw [getLsbD_doubleShift x x hk hi, BitVec.getLsbD_rotateLeft]
  obtain rfl | hlt := hk.eq_or_lt
  · simp [hi]
  · have hbit : 32 + i - k = 32 - k + i := by omega
    by_cases h : i < k <;> simp [h, hi, hbit, Nat.mod_eq_of_lt hlt]

/-- The extract of R138: the shift (32 - p) mod 32 brings bit p + i to bit i, within the width. -/
theorem getLsbD_fuOperate_field (x : Word) {w p i : Nat} (hw : p + w ≤ 32) (hi : i < 32) :
    (Config.fuOperate x x ⟨false, w, (32 - p) % 32⟩).getLsbD i = (decide (i < w) && x.getLsbD (p + i)) := by
  rw [getLsbD_fuOperate_extract x x w (by omega) hi]
  by_cases h : i < w
  · obtain rfl | hp := p.eq_zero_or_pos
    · simp
    · have hshift : (32 - p) % 32 = 32 - p := by omega
      have hlow : i < 32 - p := by omega
      have hbit : 32 + i - (32 - p) = p + i := by omega
      simp [hshift, hlow, hbit]
  · simp [h]

/-! The ends of the instructions -/

theorem State.combine_eq (s : State) (v len : Word) :
    s.combine v len = { s.setStack (s.sp - 1) v with sp := s.sp - 1, pc := s.pc + len } :=
  State.advance_neg _ len 1

theorem State.replaceTop_eq (s : State) (v len : Word) : s.replaceTop v len = { s.setStack s.sp v with pc := s.pc + len } :=
  State.advance_zero _ len

theorem State.finishQR_eq (s : State) (o : QR) (v : Word) :
    s.finishQR o v = { s.setStack (s.qDest o.q) v with sp := s.sp + (qDs o.q + srcDs o.rb), pc := s.pc + 2 } := rfl

theorem withDescriptor_of_some {ab : Half} {fd : FieldDesc} (h : fieldDesc ab = some fd) (k : FieldDesc → State) :
    withDescriptor ab k = .next (k fd) := by
  simp only [withDescriptor, h]

theorem withDescriptor_of_none {ab : Half} (h : fieldDesc ab = none) (k : FieldDesc → State) :
    withDescriptor ab k = .refused .fieldDescriptor := by
  simp only [withDescriptor, h]

/-- The check of Field's bits 31:13 is that Field is below 2^13 (R137). -/
theorem exec_rfu (o : RRR) (s : State) :
    exec (.rfu o) s =
      if s.field.toNat < 2 ^ 13 then
        withDescriptor (s.field.setWidth 16) fun fd => s.finishRRR o (Config.fuOperate (s.ra o) (s.rb o) fd)
      else .refused .fieldDescriptor := by
  simp only [← extractLsb'_high_eq_zero_iff (m := 19), BitVec.setWidth_eq_extractLsb' (by decide : 16 ≤ 32)]
  rfl

end Sys2Proof.Machine
end

section
/-! The statements of spec/41_logical_fieldunit.md. -/

namespace Sys2Proof.Machine

/-! Bitwise logical -/

/-- Settles O22: each is one of the three shared ends with the bitwise result. -/
theorem bitwiseOperationsWriteTheirResult : Obligations.BitwiseOperationsWriteTheirResult := by
  refine ⟨fun s => ?and, fun s => ?or, fun o s => ?rand, fun o s => ?ror, fun o s => ?rxor, fun o s => ?qand, fun o s => ?qor⟩
  case and | or => exact congrArg _ (s.combine_eq _ 1)
  case rand | ror | rxor => exact congrArg _ (s.finishRRR_eq o _)
  case qand | qor => exact congrArg Host.Outcome.next (s.finishQR_eq o _)

/-! Field descriptors -/

/-- Settles O24: the fields are the digits of the double byte. -/
theorem descriptorFieldsAndTheirRange : Obligations.DescriptorFieldsAndTheirRange := fieldDesc_eq_some_iff_toNat

/-- Settles O23: a literal that is a descriptor is passed on to the shared end, one that is ill formed is none and refused. -/
theorem fieldUnitInstructionsApplyOperate : Obligations.FieldUnitInstructionsApplyOperate := by
  refine fun ab s => ⟨fun fd hfd => ⟨?shl, ?shr, ?shdl, ?shdr⟩, fun hwf => ?refused⟩
  case shl | shr => exact (withDescriptor_of_some hfd _).trans (congrArg _ (s.replaceTop_eq _ 3))
  case shdl | shdr => exact (withDescriptor_of_some hfd _).trans (congrArg _ (s.combine_eq _ 3))
  case refused =>
    have hnone : fieldDesc ab = none := (fieldDesc_eq_none_iff ab).mpr hwf
    exact ⟨withDescriptor_of_none hnone _, withDescriptor_of_none hnone _, withDescriptor_of_none hnone _,
      withDescriptor_of_none hnone _⟩

/-- Settles O25: FSDB ends by popping one; RFU passes on the descriptor in Field, or refuses Field or its low half. -/
theorem fieldRegisterInstructions : Obligations.FieldRegisterInstructions := by
  refine ⟨fun ab s => ?fsdb, fun o s fd hlt hfd => ?rfu, fun o s h => ?refused⟩
  case fsdb => exact congrArg _ (State.advance_neg _ 3 1)
  case rfu =>
    rw [exec_rfu, if_pos hlt, withDescriptor_of_some hfd, State.finishRRR_eq]
    rfl
  case refused =>
    rw [exec_rfu]
    obtain hge | hnone := h
    · exact if_neg (Nat.not_lt.mpr hge)
    · rw [withDescriptor_of_none hnone, ite_self]

/-! FU_OPERATE -/

/-- Settles O26: with one word on both sides of the double word the shift is a rotate, with 0 on the right a left shift. -/
theorem operateShiftsAndRotates : Obligations.OperateShiftsAndRotates := fun x y k hk =>
  ⟨fuOperate_shiftLeft x hk, fuOperate_shiftRight x hk, (fuOperate_full x x k).trans (doubleShift_self x hk),
    (congrArg BitVec.toNat (fuOperate_full x y k)).trans (toNat_doubleShift x y k)⟩

/-- Settles O27: the bits of the extract and of the insert form. -/
theorem operateExtractsAndInsertsFields : Obligations.OperateExtractsAndInsertsFields := fun x y w _ _ hw hp hi =>
  ⟨getLsbD_fuOperate_field x hw hi, getLsbD_fuOperate_insert x y w hp.le hi⟩

end Sys2Proof.Machine
end

section
/-! The statements of spec/42_noops_constants.md, after the two ends its instructions have beside that of a NoOp
(`State.advance_zero`): the push of a word and of a constant register. -/

namespace Sys2Proof.Machine

theorem State.push_eq (s : State) (v len : Word) :
    s.push v len = { s.setStack (s.sp + 1) v with sp := s.sp + 1, pc := s.pc + len } := rfl

theorem State.loadConst_eq (s : State) (m : Fin 12) :
    s.loadConst m = .next { s.setStack (s.sp + 1) (s.constAt m) with sp := s.sp + 1, pc := s.pc + 1 } :=
  congrArg Host.Outcome.next (s.push_eq (s.constAt m) 1)

/-! NoOps -/

/-- Settles O28: each ends by adding its length to PC and 0 to S; the literal does not occur. -/
theorem noOpsOnlyAdvancePc : Obligations.NoOpsOnlyAdvancePc := by
  refine ⟨fun s => ?j1, fun _ s => ?j2, fun _ s => ?j3, fun _ s => ?j5⟩
  case j1 | j2 | j3 | j5 => exact congrArg Host.Outcome.next (s.advance_zero _)

/-! Literals and constants -/

/-- Settles O29: each is the push of its literal, zero-extended by the instruction. -/
theorem literalsArePushed : Obligations.LiteralsArePushed := by
  refine ⟨fun a s => ?lib, fun ab s => ?lidb, fun w s => ?liqb⟩
  case lib => exact congrArg Host.Outcome.next (s.push_eq (zext8 a) 2)
  case lidb => exact congrArg Host.Outcome.next (s.push_eq (zext16 ab) 3)
  case liqb => exact congrArg Host.Outcome.next (s.push_eq w 5)

/-- Settles O30: all twelve are the one shared push, at the constant register their name says. -/
theorem constantsArePushed : Obligations.ConstantsArePushed := by
  intro p hp s
  have hexec : exec p.1 s = s.loadConst p.2 := by
    fin_cases hp <;> rfl
  rw [hexec]
  exact s.loadConst_eq p.2

end Sys2Proof.Machine
end

section
/-! Calls and returns: the ends of a call, of a return and of an indirect call, and what every instruction leaves of the IFU stack
(R150, R151, R264). -/

namespace Sys2Proof.Machine

/-! The ends of calls and returns -/

section
variable {s : State}

theorem State.call_full (len target : Word) (ds : StackIx) (h : ifuFull s.ifu = true) :
    s.call len target ds = .fault .ifuOverflow := if_pos h

/-- A call that pops nothing leaves S alone. -/
theorem State.call_zero_of (len target : Word) (h : ifuFull s.ifu = false) :
    s.call len target 0 = .next { s with ifu := s.ifuRecord (s.pc + len) :: s.ifu, pc := target } := by
  rw [State.call_of len target 0 h]
  simp [State.ifuPush]

/-- A call that pops drops S by what it pops. -/
theorem State.call_neg_of (len target : Word) (n : StackIx) (h : ifuFull s.ifu = false) :
    s.call len target (-n) = .next { s with ifu := s.ifuRecord (s.pc + len) :: s.ifu, pc := target, sp := s.sp - n } := by
  rw [State.call_of len target (-n) h, BitVec.sub_eq_add_neg]
  rfl

theorem State.ifuReturn_of {r : IfuRecord} {rest : List IfuRecord} (h : s.ifu = r :: rest) :
    s.ifuReturn = .next (s.restore r rest) := by
  simp only [State.ifuReturn, h]

theorem State.ifuReturn_empty (h : s.ifu = []) : s.ifuReturn = .fault .ifuUnderflow := by
  simp only [State.ifuReturn, h]

theorem State.memRead_unadmitted {wa : Word} (ha : s.admits wa = false) : s.memRead wa = .error .memoryNotAdmitted := by
  simp [State.memRead, ha]

theorem State.memRead_unwritten {wa : Word} (ha : s.admits wa = true) (hw : s.mem.word wa = none) :
    s.memRead wa = .error .unwritten := by
  simp [State.memRead, ha, hw]

/-- SFCI is a call to the word that [S] points to (R156). -/
theorem execSfci_of_ok {w : Word} (h : s.memRead s.top = .ok w) : execSfci s = s.call 1 w 0 := by
  simp only [execSfci, h]

theorem execSfci_of_error {f : Fault} (h : s.memRead s.top = .error f) : execSfci s = .fault f := by
  simp only [execSfci, h]

theorem execSfci_next {t : State} (h : execSfci s = .next t) : ∃ w, s.call 1 w 0 = .next t := by
  unfold execSfci at h
  split at h
  · cases h
  · next w _ => exact ⟨w, h⟩

theorem execKfc_of (h : ifuFull s.ifu = false) : execKfc s = .next (s.kernelEntry (s.pc + 1) (Config.instTrap .kfc)) :=
  if_neg (Bool.eq_false_iff.mp h)

theorem execKfc_full (h : ifuFull s.ifu = true) : execKfc s = .fault .ifuOverflow := if_pos h

end

/-! What becomes of the IFU stack -/

/-- LFC, DFC, SFC, SFCI and KFC, by their opcodes in REF_OPC (R152, R90). -/
abbrev IsCall (i : Instr) : Prop := 0x50 ≤ opcodeOf i ∧ opcodeOf i ≤ 0x54

/-- The opcodes in REF_OPC of the instructions with a trap of this kind in their rows (R260, R90). -/
abbrev trapRaisers : TrapKind → List Nat
  | .overflow => [0x10, 0x11, 0x12, 0x13, 0x14, 0x15, 0x18, 0x19, 0x1A, 0x1B, 0x1C, 0x1D]
  | .boundsCheck => [0xE0, 0xE1, 0xE2]
  | .lispNaN => [0xE8, 0xE9, 0xEA, 0xEB, 0xEC, 0xED]

/-- What an instruction may do to the IFU stack: leave it alone, take one of its own traps or push a call's return record where
there is room, or remove the newest record. -/
inductive IfuMove (i : Instr) (s t : State) : Prop where
  | kept (h : t.ifu = s.ifu)
  | trapped (k : TrapKind) (hi : opcodeOf i ∈ trapRaisers k) (hroom : ifuFull s.ifu = false) (h : t = s.trapEntry k)
  | called (hi : IsCall i) (hroom : ifuFull s.ifu = false)
      (h : t.ifu = s.ifuRecord (s.pc + BitVec.ofNat 32 (encode i).length) :: s.ifu)
  | returned (r : IfuRecord) (hi : opcodeOf i ∈ [0x55, 0x56]) (h : s.ifu = r :: t.ifu)

/-- A call that completes found room and pushed the return record, its PC the address after the call (R150, R152). -/
theorem exec_call_ifu {i : Instr} {s t : State} (hi : IsCall i) (h : exec i s = .next t) :
    ifuFull s.ifu = false ∧ t.ifu = s.ifuRecord (s.pc + BitVec.ofNat 32 (encode i).length) :: s.ifu := by
  cases i with
  | lfc | dfc | sfc =>
    obtain ⟨hroom, rfl⟩ := State.call_next h
    exact ⟨hroom, rfl⟩
  | sfci =>
    obtain ⟨w, hcall⟩ := execSfci_next h
    obtain ⟨hroom, rfl⟩ := State.call_next hcall
    exact ⟨hroom, rfl⟩
  | kfc =>
    obtain ⟨hroom, rfl⟩ := execKfc_next h
    exact ⟨hroom, rfl⟩
  | _ => exact absurd hi (of_decide_eq_false rfl)

section
variable {i : Instr} {s t u : State}

theorem ifuMove_of_next (h : (.next u : Result) = .next t) (hu : u.ifu = s.ifu) : IfuMove i s t := by
  cases h
  exact .kept hu

theorem ifuMove_of_trapIf {kind : TrapKind} {c : Bool} (h : s.trapIf kind c u = .next t) (hi : opcodeOf i ∈ trapRaisers kind)
    (hu : u.ifu = s.ifu) : IfuMove i s t := by
  obtain ⟨-, rfl⟩ | ⟨-, hroom, ht⟩ := State.trapIf_next h
  · exact .kept hu
  · exact .trapped kind hi hroom ht

theorem ifuMove_of_withDescriptor {ab : Half} {k : FieldDesc → State} (h : withDescriptor ab k = .next t)
    (hk : ∀ fd, (k fd).ifu = s.ifu) : IfuMove i s t := by
  obtain ⟨fd, -, rfl⟩ := withDescriptor_next h
  exact .kept (hk fd)

theorem ifuMove_of_load {ea : Word} {k : Word → State} (h : s.load ea k = .next t) (hk : ∀ w, (k w).ifu = s.ifu) :
    IfuMove i s t := by
  obtain ⟨w, -, -, rfl⟩ := State.load_next h
  exact .kept (hk w)

theorem ifuMove_of_call (h : exec i s = .next t) (hi : IsCall i) : IfuMove i s t := by
  obtain ⟨hroom, hifu⟩ := exec_call_ifu hi h
  exact .called hi hroom hifu

theorem ifuMove_of_ifuReturn (h : u.ifuReturn = .next t) (hi : opcodeOf i ∈ [0x55, 0x56]) (hu : u.ifu = s.ifu) :
    IfuMove i s t := by
  obtain ⟨r, rest, hifu, rfl⟩ := State.ifuReturn_next h
  exact .returned r hi (hu.symm.trans hifu)

theorem ifuMove_of_rfu {o : RRR} (h : execRfu o s = .next t) : IfuMove i s t := by
  unfold execRfu at h
  split at h
  · exact ifuMove_of_withDescriptor h fun _ => State.finishRRR_ifu ..
  · cases h

theorem ifuMove_of_store {ea v len : Word} {ds : StackIx} (h : s.store ea v len ds = .next t) : IfuMove i s t := by
  obtain ⟨-, -, rfl⟩ := State.store_next h
  exact .kept rfl

theorem ifuMove_of_cst {a : Byte} (h : execCst a s = .next t) : IfuMove i s t := by
  unfold execCst at h
  split at h
  · cases h
  · next r u hcst =>
    cases h
    obtain ⟨-, ⟨-, hw⟩ | ⟨-, rfl⟩⟩ := State.cStore_ok hcst
    · obtain ⟨-, -, rfl⟩ := State.memWrite_ok hw
      exact .kept rfl
    · exact .kept rfl

theorem ifuMove_of_dispatch {addr data len : Word} {c : Byte} {dst ds : StackIx}
    (h : (.next ((s.dispatch addr data c dst).advance len ds) : Result) = .next t) : IfuMove i s t :=
  ifuMove_of_next h (State.dispatch_ifu ..)

end

/-- Every instruction: calls and traps alone push, and where there is room; returns alone pop (R150, R151, R264). -/
theorem exec_ifuMove {i : Instr} {s t : State} (h : exec i s = .next t) : IfuMove i s t := by
  cases i with
  | lfc | dfc | sfc | sfci | kfc => exact ifuMove_of_call h (of_decide_eq_true rfl)
  | retn | ret => exact ifuMove_of_ifuReturn h (of_decide_eq_true rfl) rfl
  | addb | adddb | addqb | add | subb | subdb | subqb | sub | qadd | qsub | bc | qbc | ladd | lsub | qladd | qlsub =>
    exact ifuMove_of_trapIf h (of_decide_eq_true rfl) rfl
  | radd | rsub | rbc | rladd | rlsub => exact ifuMove_of_trapIf h (of_decide_eq_true rfl) (State.finishRRR_ifu ..)
  | ruadd | rvadd | rusub | rvsub | rand | ror | rxor => exact ifuMove_of_next h (State.finishRRR_ifu ..)
  | and | or | qand | qor => exact ifuMove_of_next h rfl
  | shl | shr | shdl | shdr => exact ifuMove_of_withDescriptor h fun _ => rfl
  | fsdb => exact ifuMove_of_next h rfl
  | rfu => exact ifuMove_of_rfu h
  | j1 | j2 | j3 | j5 | lib | lidb | liqb => exact ifuMove_of_next h rfl
  | lc0 | lc1 | lc2 | lc3 | lc4 | lc5 | lc6 | lc7 | lc8 | lc9 | lc10 | lc11 => exact ifuMove_of_next h rfl
  | dis | as | asl | als | al | dup | exdis => exact ifuMove_of_next h rfl
  | lr0 | lr1 | lr2 | lr3 | lr4 | lr5 | lr6 | lr7 | lr8 | lr9 | lr10 | lr11 | lr12 | lr13 | lr14 | lr15 =>
    exact ifuMove_of_next h rfl
  | sr0 | sr1 | sr2 | sr3 | sr4 | sr5 | sr6 | sr7 | sr8 | sr9 | sr10 | sr11 | sr12 | sr13 | sr14 | sr15 =>
    exact ifuMove_of_next h rfl
  | rrx => exact ifuMove_of_load h fun _ => State.finishRRR_ifu ..
  | qrx | rb | rsb | rx | rri | rai | lgf => exact ifuMove_of_load h fun _ => rfl
  | lri0 | lri1 | lri2 | lri3 | lri4 | lri5 | lri6 | lri7 | lri8 | lri9 | lri10 | lri11 | lri12 | lri13 | lri14 | lri15 =>
    exact ifuMove_of_load h fun _ => rfl
  | wb | wsb | psb | wri | wai => exact ifuMove_of_store h
  | sri0 | sri1 | sri2 | sri3 | sri4 | sri5 | sri6 | sri7 | sri8 | sri9 | sri10 | sri11 | sri12 | sri13 | sri14 | sri15 =>
    exact ifuMove_of_store h
  | cst => exact ifuMove_of_cst h
  | jb | jdb | jqb | jsd | jsr => exact ifuMove_of_next h rfl
  | jebb | jebbj | jnebb | jnebbj => exact ifuMove_of_next h rfl
  | rjlb | rjlbj | rjleb | rjlebj | rjeb | rjebj | rjneb | rjnebj | rjgeb | rjgebj | rjgb | rjgbj =>
    exact ifuMove_of_next h rfl
  | lip | sip => exact ifuMove_of_next h rfl
  | iod | ioda | ion => exact ifuMove_of_dispatch h

/-! The invariant -/

/-- A push follows a test for room, so no move of the IFU stack passes its capacity (R150). -/
theorem IfuMove.length_le {i : Instr} {s t : State} (hmove : IfuMove i s t) (hs : s.ifu.length ≤ Config.ifuStackDepth) :
    t.ifu.length ≤ Config.ifuStackDepth := by
  cases hmove with
  | kept h => rwa [h]
  | trapped k _ hroom h =>
    rw [h]
    exact (ifuFull_eq_false_iff s.ifu).mp hroom
  | called _ hroom h =>
    rw [h]
    exact (ifuFull_eq_false_iff s.ifu).mp hroom
  | returned r _ h =>
    rw [h] at hs
    exact Nat.le_of_succ_le hs

theorem StoredOutsideText.wf {s t : State} (h : StoredOutsideText s t) (hs : Memory.wf s.mem) : Memory.wf t.mem := by
  obtain hmem | ⟨wa, v, -, hmem⟩ := h
  · rwa [hmem]
  · rw [hmem]
    exact Memory.wf_putWord s.mem wa v hs

end Sys2Proof.Machine
end

section
/-! The statements of spec/43_calls_returns.md, and of spec/10_state.md on the invariant. -/

namespace Sys2Proof.Machine

/-- Settles O3: the instruction fetched stores whole words at most, and pushes on the IFU stack only where there is room. -/
theorem stepKeepsTheInvariant : Obligations.StepKeepsTheInvariant := by
  intro s t hs h
  obtain ⟨hwf, hdepth⟩ := hs
  obtain ⟨i, -, hexec⟩ := step_next h
  obtain ⟨-, -, hstored⟩ := exec_keeps_text hexec
  exact ⟨hstored.wf hwf, (exec_ifuMove hexec).length_le hdepth⟩

/-- Settles O34: the call left its return record newest on the IFU stack, and RETN restores that record. -/
theorem callThenReturnResumesAfterTheCall : Obligations.CallThenReturnResumesAfterTheCall := by
  intro i s t u hlo hhi h hu
  obtain ⟨-, hifu⟩ := exec_call_ifu ⟨hlo, hhi⟩ h
  exact State.ifuReturn_of (hu.trans hifu)

/-- Settles O31: LFC, DFC and SFC are the shared call, which adds 0 or -1 to S; KFC is the shared kernel entry. -/
theorem callsPushTheReturnRecord : Obligations.CallsPushTheReturnRecord := by
  refine fun s => ⟨fun hlt => ?room, fun hge => ?full⟩
  case room =>
    have hroom : ifuFull s.ifu = false := (ifuFull_eq_false_iff s.ifu).mpr hlt
    exact ⟨fun ab => State.call_zero_of 3 _ hroom, fun w => State.call_zero_of 5 w hroom, State.call_neg_of 1 s.top 1 hroom,
      execKfc_of hroom⟩
  case full =>
    have hfull : ifuFull s.ifu = true := (ifuFull_iff s.ifu).mpr hge
    exact ⟨fun ab => State.call_full 3 _ 0 hfull, fun w => State.call_full 5 w 0 hfull, State.call_full 1 s.top (-1) hfull,
      execKfc_full hfull⟩

/-- Settles O32: the read of the target decides the first two stops, the shared call the third. -/
theorem indirectCallReadsItsTargetFromMemory : Obligations.IndirectCallReadsItsTargetFromMemory := by
  refine fun s => ⟨fun w ha hw hlt => ?room, fun ha => ?unadmitted, fun ha hw => ?unwritten, fun w ha hw hge => ?full⟩
  case room =>
    exact (execSfci_of_ok (State.memRead_of ha hw)).trans (State.call_zero_of 1 w ((ifuFull_eq_false_iff s.ifu).mpr hlt))
  case unadmitted => exact execSfci_of_error (State.memRead_unadmitted ha)
  case unwritten => exact execSfci_of_error (State.memRead_unwritten ha hw)
  case full =>
    exact (execSfci_of_ok (State.memRead_of ha hw)).trans (State.call_full 1 w 0 ((ifuFull_iff s.ifu).mpr hge))

/-- Settles O33: both are the shared return, RET from the state with S already set. -/
theorem returnsRestoreTheNewestRecord : Obligations.ReturnsRestoreTheNewestRecord := by
  refine fun s => ⟨fun r rest hifu => ⟨?retn, fun a => ?ret⟩, fun hempty => ⟨?retnEmpty, fun a => ?retEmpty⟩⟩
  case retn | ret => exact State.ifuReturn_of hifu
  case retnEmpty | retEmpty => exact State.ifuReturn_empty hempty

end Sys2Proof.Machine
end

section
/-! The statements of spec/44_frame_stack_copies.md on DIS, DUP, EXDIS and the sums of S and L, after the one fact of arithmetic that
R165 rests on: 2^w divides 2^v, so a literal reads the same modulo 2^w as signed or unsigned. -/

namespace Sys2Proof.Machine

/-! A literal added to an index (R165) -/

theorem toNat_add_setWidth {w v : Nat} (x : BitVec w) (a : BitVec v) :
    ((x + a.setWidth w).toNat : Int) = (x.toNat + a.toNat) % (2 ^ w : Nat) := by
  rw [BitVec.toNat_add, BitVec.toNat_setWidth, Nat.add_mod_mod]
  push_cast
  rfl

theorem toInt_modEq_toNat {w v : Nat} (h : w ≤ v) (a : BitVec v) : a.toInt ≡ a.toNat [ZMOD (2 ^ w : Nat)] := by
  have hdvd : ((2 ^ w : Nat) : Int) ∣ (2 ^ v : Nat) := Int.natCast_dvd_natCast.mpr (Nat.pow_dvd_pow 2 h)
  have hmod : a.toInt ≡ a.toNat [ZMOD (2 ^ v : Nat)] := by
    rw [BitVec.toInt_eq_toNat_bmod]
    exact Int.bmod_emod
  exact hmod.of_dvd hdvd

theorem toNat_add_setWidth_signed {w v : Nat} (h : w ≤ v) (x : BitVec w) (a : BitVec v) :
    ((x + a.setWidth w).toNat : Int) = (x.toNat + a.toInt) % (2 ^ w : Nat) :=
  (toNat_add_setWidth x a).trans ((toInt_modEq_toNat h a).add_left _).symm

/-! Frame and stack pointers -/

/-- Settles O36: each sets its pointer and ends by adding 2 to PC and 0 to S; 7 bits are fewer than the 8 of the byte. -/
theorem framePointerArithmetic : Obligations.FramePointerArithmetic := by
  refine fun a s => ⟨?as, ?asl, ?als, ?al, fun x => ⟨?unsigned, ?signed⟩⟩
  case as | asl | als | al => exact congrArg Host.Outcome.next (State.advance_zero _ 2)
  case unsigned => exact toNat_add_setWidth x a
  case signed => exact toNat_add_setWidth_signed (by decide) x a

/-! The top of the stack -/

/-- Settles O35: DIS sets S and ends with DS = 0, DUP is the push of [S], EXDIS the shared end of a two-operand instruction. -/
theorem topOfStackCopiesAndDiscard : Obligations.TopOfStackCopiesAndDiscard := by
  refine fun s => ⟨?dis, ?dup, ?exdis⟩
  case dis => exact congrArg Host.Outcome.next (State.advance_zero _ 1)
  case dup => exact congrArg Host.Outcome.next (s.push_eq s.top 1)
  case exdis => exact congrArg Host.Outcome.next (s.combine_eq s.top 1)

end Sys2Proof.Machine
end

section
/-! The statement of spec/46_stores.md on CST, after what the conditional store does: it stops where its read does, leaves the state
alone where the word read differs from `old`, and otherwise ends as its write does (R203). -/

namespace Sys2Proof.Machine

/-! The conditional store (R202, R203) -/

section
variable {s t : State} {ptr new old v : Word} {f : Fault}

theorem State.memWrite_holdsText (ha : s.admits ptr = true) (ht : s.holdsText ptr = true) :
    s.memWrite ptr v = .error .storeToText := by
  simp [State.memWrite, ha, ht]

theorem State.cStore_of_memRead_error (hr : s.memRead ptr = .error f) : s.cStore ptr new old = .error f := by
  simp only [State.cStore, hr]

theorem State.cStore_of_ne (hr : s.memRead ptr = .ok v) (hne : v ≠ old) : s.cStore ptr new old = .ok (v, s) := by
  simp only [State.cStore, hr, Config.cStore, if_neg hne]

theorem State.cStore_of_memWrite_ok (hr : s.memRead ptr = .ok old) (hw : s.memWrite ptr new = .ok t) :
    s.cStore ptr new old = .ok (old, t) := by
  simp only [State.cStore, hr, Config.cStore, ↓reduceIte, hw]

theorem State.cStore_of_memWrite_error (hr : s.memRead ptr = .ok old) (hw : s.memWrite ptr new = .error f) :
    s.cStore ptr new old = .error f := by
  simp only [State.cStore, hr, Config.cStore, ↓reduceIte, hw]

theorem exec_cst_of_ok {a : Byte} (h : s.cStore (s.third + zext8 a) s.second s.top = .ok (v, t)) :
    exec (.cst a) s = .next (t.push v 2) := by
  simp only [exec, execCst, h]

theorem exec_cst_of_error {a : Byte} (h : s.cStore (s.third + zext8 a) s.second s.top = .error f) :
    exec (.cst a) s = .fault f := by
  simp only [exec, execCst, h]

end

/-! CST -/

/-- Settles O42: the read decides the first two stops, the comparison whether there is a write, and the write the third stop. -/
theorem conditionalStoreComparesAndSwaps : Obligations.ConditionalStoreComparesAndSwaps := by
  intro a s ptr
  refine ⟨fun ha => ?unadmitted, fun ha hw => ?unwritten, fun v ha hw => ?_⟩
  case unadmitted => exact exec_cst_of_error (State.cStore_of_memRead_error (State.memRead_unadmitted ha))
  case unwritten => exact exec_cst_of_error (State.cStore_of_memRead_error (State.memRead_unwritten ha hw))
  have hread : s.memRead ptr = .ok v := State.memRead_of ha hw
  refine ⟨fun hne => ?differs, fun heq ht => ?swaps, fun heq ht => ?text⟩
  case differs => exact (exec_cst_of_ok (State.cStore_of_ne hread hne)).trans (congrArg Host.Outcome.next (s.push_eq v 2))
  case swaps =>
    subst heq
    exact ⟨_, exec_cst_of_ok (State.cStore_of_memWrite_ok hread (State.memWrite_of s.second ha ht)),
      wordStored_putWord s ptr s.second 2 1, State.push_eq _ s.top 2⟩
  case text =>
    subst heq
    exact exec_cst_of_error (State.cStore_of_memWrite_error hread (State.memWrite_holdsText ha ht))

end Sys2Proof.Machine
end

section
/-! The statements of spec/47_jumps.md, after the next state of a conditional jump, given what its Bool test decides (R216, R226). -/

namespace Sys2Proof.Machine

/-! The ends of a conditional jump -/

section
variable (s : State) {c : Bool} {p : Prop} [Decidable p]

theorem State.jumpIf_eq (h : c = true ↔ p) (disp : Byte) (ds : StackIx) :
    s.jumpIf c disp ds = { s with pc := if p then s.pc + disp.signExtend 32 else s.pc + 3, sp := s.sp + ds } := by
  simp only [State.jumpIf, sext8, h]

theorem State.jumpIf_neg_eq (h : c = true ↔ p) (disp : Byte) (n : StackIx) :
    s.jumpIf c disp (-n) = { s with pc := if p then s.pc + disp.signExtend 32 else s.pc + 3, sp := s.sp - n } := by
  rw [s.jumpIf_eq h, BitVec.sub_eq_add_neg]

theorem State.jumpRD_eq {o : RD} {test : Word → Word → Bool} (h : test (s.readT o.t) (s.read o.file o.rb) = true ↔ p) :
    s.jumpRD o test = { s with
      pc := if p then s.pc + o.disp.signExtend 32 else s.pc + 3, sp := s.sp + (tDs o.t + srcDs o.rb) } :=
  s.jumpIf_eq h o.disp _

end

/-! Unconditional jumps -/

/-- Settles O44: JB, JDB and JSR end by adding to PC and to S; sign extension to a wider word keeps the signed value. -/
theorem unconditionalJumpsSetPc : Obligations.UnconditionalJumpsSetPc := by
  refine fun s => ⟨fun a => ⟨?jb, ?byteValue⟩, fun ab => ⟨?jdb, ?halfValue⟩, fun w => ?jqb, ?jsd, ?jsr⟩
  case jb => exact congrArg Host.Outcome.next (s.advance_zero (sext8 a))
  case jdb => exact congrArg Host.Outcome.next (s.advance_zero (sext16 ab))
  case byteValue | halfValue => exact BitVec.toInt_signExtend_of_le (by decide)
  case jqb | jsd => rfl
  case jsr => exact congrArg Host.Outcome.next (s.advance_neg s.top 1)

/-! Conditional jumps -/

/-- Settles O45: all four are the shared conditional jump, on `==` or `!=` of the literal and [S], with DS = -1. -/
theorem literalJumpsCompareAndPop : Obligations.LiteralJumpsCompareAndPop := by
  refine fun s => ⟨fun a b => ?jebb, fun a b => ?jebbj, fun a b => ?jnebb, fun a b => ?jnebbj⟩
  case jebb | jebbj => exact congrArg Host.Outcome.next (s.jumpIf_neg_eq beq_iff_eq b 1)
  case jnebb | jnebbj => exact congrArg Host.Outcome.next (s.jumpIf_neg_eq bne_iff_ne b 1)

/-- Settles O46: all twelve are the shared register jump; each test decides the signed comparison, equal words being those of one
signed value. -/
theorem registerJumpsCompareSignedWords : Obligations.RegisterJumpsCompareSignedWords := by
  intro o s x y
  have heq : (s.readT o.t == s.read o.file o.rb) = true ↔ x = y := beq_iff_eq.trans BitVec.toInt_inj.symm
  have hne : (s.readT o.t != s.read o.file o.rb) = true ↔ x ≠ y := bne_iff_ne.trans BitVec.toInt_inj.not.symm
  refine ⟨?rjlb, ?rjlbj, ?rjleb, ?rjlebj, ?rjeb, ?rjebj, ?rjneb, ?rjnebj, ?rjgeb, ?rjgebj, ?rjgb, ?rjgbj⟩
  case rjlb | rjlbj => exact congrArg Host.Outcome.next (s.jumpRD_eq (jumpLess_iff _ _))
  case rjleb | rjlebj => exact congrArg Host.Outcome.next (s.jumpRD_eq (jumpLessEq_iff _ _))
  case rjeb | rjebj => exact congrArg Host.Outcome.next (s.jumpRD_eq heq)
  case rjneb | rjnebj => exact congrArg Host.Outcome.next (s.jumpRD_eq hne)
  case rjgeb | rjgebj => exact congrArg Host.Outcome.next (s.jumpRD_eq (jumpLessEq_iff _ _))
  case rjgb | rjgbj => exact congrArg Host.Outcome.next (s.jumpRD_eq (jumpLess_iff _ _))

/-- Settles O58: the two opcodes of a pair have one meaning, the literal pairs on `==` and `!=`, the register pairs on one test. -/
theorem predictionSuffixHasNoEffect : Obligations.PredictionSuffixHasNoEffect := by
  refine fun s => ⟨fun a b => ⟨?jebb, ?jnebb⟩, fun o => ⟨?rjlb, ?rjleb, ?rjeb, ?rjneb, ?rjgeb, ?rjgb⟩⟩
  case jebb | jnebb => rfl
  case rjlb | rjleb | rjeb | rjneb | rjgeb | rjgb => rfl

end Sys2Proof.Machine
end

section
/-! The ends of bounds checks, Lisp instructions, I/O instructions and traps, case by case: the test of a trap by whether it holds
and whether the IFU stack has room, the dispatch by what the command reads and writes. -/

namespace Sys2Proof.Machine

/-! The trap test (R263, R264) -/

section
variable {s : State} {kind : TrapKind}

theorem State.trapIf_of_room (c : Bool) (done : State) (h : ifuFull s.ifu = false) :
    s.trapIf kind c done = .next (if c then s.trapEntry kind else done) := by
  simp only [State.trapIf, h, Bool.false_and, Bool.false_eq_true, ↓reduceIte]

theorem State.trapIf_of_full (c : Bool) (done : State) (h : ifuFull s.ifu = true) :
    s.trapIf kind c done = if c then .fault .ifuOverflow else .next done := by
  cases c with
  | false => exact s.trapIf_false done kind
  | true => exact s.trapIf_full done kind h

/-- A trap that is due is entered where the IFU stack has room, and stops the machine where it has none. -/
theorem State.trapIf_true_eq (done : State) :
    s.trapIf kind true done = if s.ifu.length < Config.ifuStackDepth then .next (s.trapEntry kind) else .fault .ifuOverflow := by
  split
  · next hroom => exact State.trapIf_true done kind ((ifuFull_eq_false_iff s.ifu).mpr hroom)
  · next hfull => exact State.trapIf_full done kind ((ifuFull_iff s.ifu).mpr (Nat.le_of_not_lt hfull))

end

/-! Bounds checks (R230) -/

section
variable {s : State} {x y : Word} (done : State)

theorem State.checkBound_of_lt (h : x.toNat < y.toNat) : s.checkBound x y done = .next done := by
  rw [State.checkBound, (belowBound_iff x y).mpr h]
  exact s.trapIf_false done .boundsCheck

theorem State.checkBound_of_ge (h : y.toNat ≤ x.toNat) :
    s.checkBound x y done =
      if s.ifu.length < Config.ifuStackDepth then .next (s.trapEntry .boundsCheck) else .fault .ifuOverflow := by
  have hbelow : belowBound x y = false := Bool.eq_false_iff.mpr ((belowBound_iff x y).not.mpr (Nat.not_lt.mpr h))
  rw [State.checkBound, hbelow]
  exact State.trapIf_true_eq done

end

/-! Lisp arithmetic (R235) -/

/-- A Lisp instruction that ends in `done` unless it traps, with room on the IFU stack and without. -/
theorem State.lisp_ends {s done : State} {x y r : Word} {write : Word → State} (h : (write r).setCarry false = done) :
    (s.ifu.length < Config.ifuStackDepth →
      s.lisp x y r write = .next (if Config.lispNaN x y r then s.trapEntry .lispNaN else done)) ∧
    (Config.ifuStackDepth ≤ s.ifu.length →
      s.lisp x y r write = if Config.lispNaN x y r then .fault .ifuOverflow else .next done) := by
  subst h
  exact ⟨fun hroom => State.trapIf_of_room _ _ ((ifuFull_eq_false_iff s.ifu).mpr hroom),
    fun hfull => State.trapIf_of_full _ _ ((ifuFull_iff s.ifu).mpr hfull)⟩

theorem State.combine_setCarry (s : State) (v len : Word) (c : Bool) :
    (s.combine v len).setCarry c = { s.setStack (s.sp - 1) v with carry := c, sp := s.sp - 1, pc := s.pc + len } := by
  rw [State.combine_eq]
  rfl

theorem State.finishRRR_setCarry (s : State) (o : RRR) (v : Word) (c : Bool) :
    (s.finishRRR o v).setCarry c = { s.write o.file o.rc v with
      carry := c, sp := s.sp + (srcDs o.ra + srcDs o.rb + dstDs o.rc), pc := s.pc + 3 } := by
  rw [State.finishRRR_eq]
  rfl

theorem State.finishQR_setCarry (s : State) (o : QR) (v : Word) (c : Bool) :
    (s.finishQR o v).setCarry c = { s.setStack (s.qDest o.q) v with
      carry := c, sp := s.sp + (qDs o.q + srcDs o.rb), pc := s.pc + 2 } := rfl

/-! Dispatch (R245, R246, R252) -/

section
variable (s : State) (addr data : Word) (c : Byte) (dst : StackIx)

theorem State.stackAt_dispatch (j : StackIx) :
    (s.dispatch addr data c dst).stackAt j =
      if Config.isRead c = true ∧ j = dst then Config.ioRead s.io addr c else s.stackAt j := by
  cases hr : Config.isRead c with
  | false => simp [State.stackAt, hr]
  | true => simp [State.stackAt, hr, Vector.getElem_set, BitVec.toNat_inj, eq_comm]

/-- The history grows by the read, then by the write. -/
theorem State.dispatch_io :
    (s.dispatch addr data c dst).io =
      (if Config.isWrite c then [.write addr data c] else []) ++ (if Config.isRead c then [.read addr c] else []) ++ s.io := by
  cases hr : Config.isRead c <;> cases hw : Config.isWrite c <;> simp [State.dispatch, hr, hw]

/-- A dispatch touches Stack and the device history only. -/
theorem State.dispatch_frame :
    s.dispatch addr data c dst =
      { s with stack := (s.dispatch addr data c dst).stack, io := (s.dispatch addr data c dst).io } := by
  unfold State.dispatch
  split <;> split <;> rfl

/-- An I/O instruction: the dispatch, then S moved by `ds` and PC by the length 3. -/
theorem State.dispatch_advance_completes {ds sp : StackIx} (hsp : s.sp + ds = sp) :
    ∃ t, (.next ((s.dispatch addr data c dst).advance 3 ds) : Result) = .next t ∧
      t = { s with stack := t.stack, io := t.io, sp := t.sp, pc := s.pc + 3 } ∧
      (∀ j, t.stackAt j = if Config.isRead c = true ∧ j = dst then Config.ioRead s.io addr c else s.stackAt j) ∧
      t.io = (if Config.isWrite c then [.write addr data c] else []) ++ (if Config.isRead c then [.read addr c] else []) ++ s.io ∧
      t.sp = sp := by
  refine ⟨_, rfl, ?frame, s.stackAt_dispatch addr data c dst, s.dispatch_io addr data c dst, ?sp⟩
  case frame =>
    conv_lhs => rw [State.dispatch_frame]
    simp [State.advance]
  case sp => rw [State.advance_sp, State.dispatch_sp, hsp]

end

theorem add_ite_neg (x n : StackIx) (c : Bool) : x + (if c then -n else 0) = x - (if c then n else 0) := by
  cases c <;> simp [BitVec.sub_eq_add_neg]

/-! Records that save PC itself (R264) -/

/-- A call saves an address past its own opcode. -/
theorem length_encode_ne_zero_of_isCall {i : Instr} (h : IsCall i) : BitVec.ofNat 32 (encode i).length ≠ 0 := by
  cases i with
  | lfc | dfc | sfc | sfci | kfc => exact of_decide_eq_true rfl
  | _ => exact absurd h (of_decide_eq_false rfl)

/-- Of the moves of the IFU stack a trap alone adds a record with the instruction's own PC: calls save a later one, and the other
moves leave the stack no taller. -/
theorem IfuMove.trapEntry_of_own_pc {i : Instr} {s t : State} (hmove : IfuMove i s t) (h : t.ifu = s.ifuRecord s.pc :: s.ifu) :
    ∃ k, opcodeOf i ∈ trapRaisers k ∧ t = s.trapEntry k := by
  cases hmove with
  | kept hkept => exact absurd (h.symm.trans hkept) (List.cons_ne_self _ _)
  | trapped k hi _ ht => exact ⟨k, hi, ht⟩
  | called hi _ hcalled =>
    have hrecord : s.ifuRecord (s.pc + BitVec.ofNat 32 (encode i).length) = s.ifuRecord s.pc :=
      List.head_eq_of_cons_eq (hcalled.symm.trans h)
    have hpc : s.pc + BitVec.ofNat 32 (encode i).length = s.pc := congrArg IfuRecord.pc hrecord
    exact absurd (left_eq_add.mp hpc.symm) (length_encode_ne_zero_of_isCall hi)
  | returned r _ hreturned =>
    have hlen : s.ifu.length = s.ifu.length + 2 := congrArg List.length (hreturned.trans (congrArg (r :: ·) h))
    omega

end Sys2Proof.Machine
end

section
/-! The statements of spec/48_bounds_lisp.md, spec/49_io.md and spec/60_exceptions.md. -/

namespace Sys2Proof.Machine

/-! Bounds checks and Lisp arithmetic -/

/-- Settles O47: all three are the shared bounds check; BC ends by popping, RBC and QBC by writing the value they checked. -/
theorem boundsChecksPassBelowAndTrapAtTheBound : Obligations.BoundsChecksPassBelowAndTrapAtTheBound := by
  refine ⟨fun o s h => ?rbc, fun s h => ?bc, fun o s h => ?qbc, fun s => ⟨fun o h => ?rbcTrap, fun h => ?bcTrap, fun o h => ?qbcTrap⟩⟩
  case rbc => exact (State.checkBound_of_lt _ h).trans (congrArg Host.Outcome.next (s.finishRRR_eq o _))
  case bc => exact (State.checkBound_of_lt _ h).trans (congrArg Host.Outcome.next (s.advance_neg 1 1))
  case qbc => exact (State.checkBound_of_lt _ h).trans (congrArg Host.Outcome.next (s.finishQR_eq o _))
  case rbcTrap | bcTrap | qbcTrap => exact State.checkBound_of_ge _ h

/-- Settles O48: all six are the shared Lisp operation, each with its own destination. -/
theorem lispArithmeticWrapsOrTraps : Obligations.LispArithmeticWrapsOrTraps := by
  refine fun s => ⟨?ladd, fun o => ?qladd, fun o => ?rladd, ?lsub, fun o => ?qlsub, fun o => ?rlsub⟩
  case ladd | lsub => exact State.lisp_ends (write := (s.combine · 1)) (s.combine_setCarry _ 1 false)
  case qladd | qlsub => exact State.lisp_ends (s.finishQR_setCarry o _ false)
  case rladd | rlsub => exact State.lisp_ends (s.finishRRR_setCarry o _ false)

/-! Input and output -/

/-- Settles O50: all three are the shared dispatch, with an address, a word and a destination of their own; S moves by the guards. -/
theorem ioInstructionsDispatchByCommand : Obligations.IoInstructionsDispatchByCommand := by
  refine fun o s => ⟨?iod, ?ioda, ?ion⟩
  case iod => exact s.dispatch_advance_completes _ _ _ _ (by rw [← BitVec.add_assoc, add_ite_neg])
  case ioda => exact s.dispatch_advance_completes _ _ _ _ (by rw [add_ite_neg, ite_self, add_zero])
  case ion => exact s.dispatch_advance_completes _ _ _ _ (by rw [ite_self, ite_self, add_zero, sub_zero])

/-! Traps -/

/-- Settles O51: trap entry is the push of a record and the kernel entry, which assign these three fields. -/
theorem trapEntryPushesAndEntersKernel : Obligations.TrapEntryPushesAndEntersKernel := fun _ _ => rfl

/-- Settles O52: RETN restores the newest record, which trap entry made of the fields it went on to change. -/
theorem trapThenReturnReexecutes : Obligations.TrapThenReturnReexecutes := fun s _ k =>
  ⟨fun hu => State.ifuReturn_of (hu.trans (s.trapEntry_ifu k)), State.ifuReturn_of (s.trapEntry_ifu k)⟩

/-- Settles O53: the record that was pushed is a trap's, and the trap is one of the instruction's own. -/
theorem onlyArithmeticBoundsAndLispTrap : Obligations.OnlyArithmeticBoundsAndLispTrap := by
  intro i s t h hifu
  obtain ⟨k, hi, ht⟩ := (exec_ifuMove h).trapEntry_of_own_pc hifu
  cases k with
  | overflow => exact .inl ⟨hi, ht⟩
  | boundsCheck => exact .inr (.inl ⟨hi, ht⟩)
  | lispNaN => exact .inr (.inr ⟨hi, ht⟩)

end Sys2Proof.Machine
end
